-- ==== Sys2Proof/Word.lean ====
section
/-! DEFINITION. The word types of the block: 64-bit register values, 32-bit command and instruction words, bytes of a
command word, 16-bit vector offsets (00_scope.md R7, R9; 30_encoding.md R80, R81). Register values are unsigned bit
vectors and arithmetic on them is modulo 2^64 (R9), which is `BitVec`'s own arithmetic. -/

namespace Sys2Proof

/-- A 64-bit register value, operand or address (R7, R9). -/
abbrev Word := BitVec 64

/-- A 32-bit command word or instruction word (R80). -/
abbrev Word32 := BitVec 32

/-- One byte field of a command word (R81). -/
abbrev ByteField := BitVec 8

/-- A vector offset (43_dispatch.md R200: "a 16-bit offset"). -/
abbrev Offset := BitVec 16

end Sys2Proof
end

