-- ==== Sys2Proof/Syntax.lean ====
section
/-! DEFINITION. The commands of the block as syntax: one constructor of `Instr` for each row of spec/opcode_table.json,
carrying the operands the row uses (30_encoding.md R83), and the command record of R80 that the decoder reads. -/

namespace Sys2Proof

/-- "Stream: I or D, selecting one TLB and one set of per-stream controls" (00_scope.md R13). -/
inductive Stream where
  | i
  | d
deriving DecidableEq, Repr

/-- "Access kind: Read, Write or Execute" (R13). -/
inductive Kind where
  | read
  | write
  | execute
deriving DecidableEq, Repr

/-- One command of the port, decoded. Operands a command does not use are not there (R80: "Operands a command does not use
are ignored"). -/
inductive Instr where
  /-- TBLKUP: look up (R101). -/
  | tblkup (st : Stream) (va asn : Word)
  /-- TBINS: insert (R104). -/
  | tbins (st : Stream) (va pte : Word)
  /-- TBIA: flush all (R105). -/
  | tbia (st : Stream)
  /-- TBIAP: flush the entries that are not global (R106). -/
  | tbiap (st : Stream)
  /-- TBIS: flush one page (R107). -/
  | tbis (st : Stream) (va : Word)
  /-- XLATE: translate, no side effects (R120). -/
  | xlate (k : Kind) (va : Word)
  /-- MEMX: translate; on failure classify, record, raise (R130). `insn` is `none` when INSN_VALID = 0 (R131). -/
  | memx (k : Kind) (va : Word) (insn : Option Word32)
  /-- RDCTL, one constructor for each id of the table of 10_state.md (R150, R152). -/
  | rdctlAsn
  | rdctlCm
  | rdctlIer
  | rdctlIpend
  | rdctlIsum
  | rdctlSirr
  | rdctlIvptb
  | rdctlDvptb
  | rdctlExcAddr
  | rdctlExcSum
  | rdctlMmStat
  | rdctlFaultVa
  | rdctlCpuid
  | rdctlPalBase
  | rdctlIctl
  | rdctlDctl
  | rdctlItbTag
  | rdctlItbPte
  | rdctlItbIa
  | rdctlItbIap
  | rdctlItbIs
  | rdctlDtbTag
  | rdctlDtbPte
  | rdctlDtbIa
  | rdctlDtbIap
  | rdctlDtbIs
  /-- RDCTL of an id that is not in the table (R152, R87). -/
  | rdctlOther (id : ByteField)
  /-- WRCTL, one constructor for each id of the table of 10_state.md (R151). -/
  | wrctlAsn (v : Word)
  | wrctlCm (v : Word)
  | wrctlIer (v : Word)
  | wrctlIpend (v : Word)
  | wrctlIsum (v : Word)
  | wrctlSirr (v : Word)
  | wrctlIvptb (v : Word)
  | wrctlDvptb (v : Word)
  | wrctlExcAddr (v : Word)
  | wrctlExcSum (v : Word)
  | wrctlMmStat (v : Word)
  | wrctlFaultVa (v : Word)
  | wrctlCpuid (v : Word)
  | wrctlPalBase (v : Word)
  | wrctlIctl (v : Word)
  | wrctlDctl (v : Word)
  | wrctlItbTag (v : Word)
  | wrctlItbPte (v : Word)
  | wrctlItbIa (v : Word)
  | wrctlItbIap (v : Word)
  | wrctlItbIs (v : Word)
  | wrctlDtbTag (v : Word)
  | wrctlDtbPte (v : Word)
  | wrctlDtbIa (v : Word)
  | wrctlDtbIap (v : Word)
  | wrctlDtbIs (v : Word)
  /-- WRCTL of an id that is not in the table (R153, R87). -/
  | wrctlOther (id : ByteField) (v : Word)
  /-- RAISE of a generic condition, one constructor for each code of R85 (R201). -/
  | raiseGOpcdec (aux : Word)
  | raiseGArith (aux : Word)
  | raiseGFen (aux : Word)
  | raiseGInterrupt (aux : Word)
  /-- RAISE of a vectored condition, its offset A[15:0] (R201). -/
  | raiseV (off : Offset) (aux : Word)
  /-- DISPATCH (R203). -/
  | dispatch
  /-- PALRET (R207). -/
  | palret (target : Word)
  /-- IRQ (R210). -/
  | irq (lines : Word)
  /-- RS: read and set (R211). -/
  | rs
  /-- RC: read and clear (R212). -/
  | rc
  /-- CVTFS: Format-F register image to IEEE single (R233). -/
  | cvtfs (a : Word)
  /-- CVTSF: IEEE single A[31:0] to Format-F register image (R234). -/
  | cvtsf (b : Word32)
  /-- CVTGT: Format-G register image to IEEE double (R236). -/
  | cvtgt (a : Word)
  /-- CVTTG: IEEE double to Format-G register image (R237). -/
  | cvttg (b : Word)
  /-- LDS: S memory image A[31:0] to register image (R239). -/
  | lds (m : Word32)
  /-- STS: S register image to memory image (R240). -/
  | sts (r : Word)
  /-- LDT: T memory image to register image (R241). -/
  | ldt (m : Word)
  /-- STT: T register image to memory image (R242). -/
  | stt (r : Word)
  /-- The six overflow-checked operations (R261 to R266). -/
  | addlv (a b : Word)
  | sublv (a b : Word)
  | mullv (a b : Word)
  | addqv (a b : Word)
  | subqv (a b : Word)
  | mulqv (a b : Word)
  /-- RDGPR (R280). -/
  | rdgpr (n : BitVec 5)
  /-- WRGPR (R281). -/
  | wrgpr (n : BitVec 5) (v : Word)
  /-- RDPC (R282). -/
  | rdpc
  /-- WRPC (R283). -/
  | wrpc (v : Word)
deriving DecidableEq, Repr

/-- The command record `(W, A, B, INSN, INSN_VALID)` of R80. -/
structure Command where
  w : Word32
  a : Word
  b : Word
  insn : Word32
  insnValid : Bool
deriving DecidableEq, Repr

/-- Why a command is illegal, one name for each clause of R86. All have the one outcome `Refuse(IllegalCommand)`. -/
inductive IllegalCommand where
  /-- "`OPC` is not in rule R84". -/
  | reservedOpcode
  /-- "`ZERO != 0`". -/
  | zeroFieldSet
  /-- "a bit its format says must be zero is set". -/
  | mustBeZeroSet
  /-- "the kind field of a `K` word is 3". -/
  | reservedKind
  /-- "RAISE vectored has `A[63:16] != 0`". -/
  | offsetTooWide
deriving DecidableEq, Repr

/-- What the decoder answers: a command, or the rejection of R86 by name. -/
inductive Decoded where
  | instr (i : Instr)
  | illegal (why : IllegalCommand)
deriving DecidableEq, Repr

end Sys2Proof
end

