-- ==== Sys2Proof/WellFormed.lean ====
section
/-! DEFINITION. When a term of `Instr` is a command the port can carry. Every operand's width is its type's; what is left to
check is that the two catch-all rows name an id "without its own row" (opcode_table.json; 10_state.md, table of section 2). -/

namespace Sys2Proof

/-- The ids of the table of 10_state.md, section 2: 0x00 to 0x14 and 0x18 to 0x1C. -/
def implementedId (id : ByteField) : Bool :=
  decide (id.toNat ≤ 0x14) || (decide (0x18 ≤ id.toNat) && decide (id.toNat ≤ 0x1C))

/-- A well-formed command: an RDCTL or WRCTL catch-all names an id that has no row of its own. -/
def WellFormed (i : Instr) : Bool :=
  match i with
  | .rdctlOther id => !implementedId id
  | .wrctlOther id _ => !implementedId id
  | .tblkup _ _ _ | .tbins _ _ _ | .tbia _ | .tbiap _ | .tbis _ _ | .xlate _ _ | .memx _ _ _ | .rdctlAsn | .rdctlCm
  | .rdctlIer | .rdctlIpend | .rdctlIsum | .rdctlSirr | .rdctlIvptb | .rdctlDvptb | .rdctlExcAddr | .rdctlExcSum
  | .rdctlMmStat | .rdctlFaultVa | .rdctlCpuid | .rdctlPalBase | .rdctlIctl | .rdctlDctl | .rdctlItbTag | .rdctlItbPte
  | .rdctlItbIa | .rdctlItbIap | .rdctlItbIs | .rdctlDtbTag | .rdctlDtbPte | .rdctlDtbIa | .rdctlDtbIap | .rdctlDtbIs
  | .wrctlAsn _ | .wrctlCm _ | .wrctlIer _ | .wrctlIpend _ | .wrctlIsum _ | .wrctlSirr _ | .wrctlIvptb _ | .wrctlDvptb _
  | .wrctlExcAddr _ | .wrctlExcSum _ | .wrctlMmStat _ | .wrctlFaultVa _ | .wrctlCpuid _ | .wrctlPalBase _ | .wrctlIctl _
  | .wrctlDctl _ | .wrctlItbTag _ | .wrctlItbPte _ | .wrctlItbIa _ | .wrctlItbIap _ | .wrctlItbIs _ | .wrctlDtbTag _
  | .wrctlDtbPte _ | .wrctlDtbIa _ | .wrctlDtbIap _ | .wrctlDtbIs _ | .raiseGOpcdec _ | .raiseGArith _ | .raiseGFen _
  | .raiseGInterrupt _ | .raiseV _ _ | .dispatch | .palret _ | .irq _ | .rs | .rc | .cvtfs _ | .cvtsf _ | .cvtgt _
  | .cvttg _ | .lds _ | .sts _ | .ldt _ | .stt _ | .addlv _ _ | .sublv _ _ | .mullv _ _ | .addqv _ _ | .subqv _ _
  | .mulqv _ _ | .rdgpr _ | .wrgpr _ _ | .rdpc | .wrpc _ => true

end Sys2Proof
end

