-- ==== Sys2Proof/Decode.lean ====
section
/-! DEFINITION. The decoder of 30_encoding.md (R81 to R88), total on every command record and rejecting by name, and after it
the encoder, written from the same tables. -/

namespace Sys2Proof

/-! ## The four byte fields of a command word (R81) -/

/-- `OPC`, bits 31:24. -/
def opcField (w : Word32) : ByteField := w.extractLsb' 24 8

/-- `IDX`, bits 23:16. -/
def idxField (w : Word32) : ByteField := w.extractLsb' 16 8

/-- `MOD`, bits 15:8. -/
def modField (w : Word32) : ByteField := w.extractLsb' 8 8

/-- `ZERO`, bits 7:0. -/
def zeroField (w : Word32) : ByteField := w.extractLsb' 0 8

/-! ## The formats (R82) -/

/-- Format `N`: IDX and MOD must be zero. -/
def formatN (idx md : ByteField) (i : Instr) : Decoded :=
  if idx = 0#8 ∧ md = 0#8 then .instr i else .illegal .mustBeZeroSet

/-- Format `S`: IDX zero, `MOD[0]` the stream (0 = I, 1 = D), `MOD[7:1]` zero. -/
def formatS (idx md : ByteField) (f : Stream → Instr) : Decoded :=
  if idx = 0#8 then
    match md.toNat with
    | 0 => .instr (f .i)
    | 1 => .instr (f .d)
    | _ => .illegal .mustBeZeroSet
  else .illegal .mustBeZeroSet

/-- Format `K`: IDX zero, `MOD[1:0]` the kind (0 = Read, 1 = Write, 2 = Execute, 3 reserved), `MOD[7:2]` zero. -/
def formatK (idx md : ByteField) (f : Kind → Instr) : Decoded :=
  if idx = 0#8 then
    match md.toNat with
    | 0 => .instr (f .read)
    | 1 => .instr (f .write)
    | 2 => .instr (f .execute)
    | 3 => .illegal .reservedKind
    | _ => .illegal .mustBeZeroSet
  else .illegal .mustBeZeroSet

/-- Format `R`: IDX any control register id, MOD zero. -/
def formatR (md : ByteField) (i : Instr) : Decoded :=
  if md = 0#8 then .instr i else .illegal .mustBeZeroSet

/-- Format `X`: `IDX[4:0]` a general register index, `IDX[7:5]` and MOD zero. -/
def formatX (idx md : ByteField) (f : BitVec 5 → Instr) : Decoded :=
  if idx.extractLsb' 5 3 = 0#3 ∧ md = 0#8 then .instr (f (idx.setWidth 5)) else .illegal .mustBeZeroSet

/-- Format `G`: `MOD[7:1]` zero; `MOD[0] = 1` a generic condition, `IDX[1:0]` its code (R85) and `IDX[7:2]` zero; `MOD[0] =
0` a vectored condition, IDX zero, offset `A[15:0]` and `A[63:16]` zero (R83, R86). -/
def formatG (idx md : ByteField) (a aux : Word) : Decoded :=
  match md.toNat with
  | 1 =>
    match idx.toNat with
    | 0 => .instr (.raiseGOpcdec aux)
    | 1 => .instr (.raiseGArith aux)
    | 2 => .instr (.raiseGFen aux)
    | 3 => .instr (.raiseGInterrupt aux)
    | _ => .illegal .mustBeZeroSet
  | 0 =>
    if idx = 0#8 then
      if a.extractLsb' 16 48 = 0#48 then .instr (.raiseV (a.setWidth 16) aux) else .illegal .offsetTooWide
    else .illegal .mustBeZeroSet
  | _ => .illegal .mustBeZeroSet

/-! ## The control register ids (10_state.md, table of section 2; R87: every id decodes) -/

/-- RDCTL of an id. -/
def rdctlOf (id : ByteField) : Instr :=
  match id.toNat with
  | 0x00 => .rdctlAsn
  | 0x01 => .rdctlCm
  | 0x02 => .rdctlIer
  | 0x03 => .rdctlIpend
  | 0x04 => .rdctlIsum
  | 0x05 => .rdctlSirr
  | 0x06 => .rdctlIvptb
  | 0x07 => .rdctlDvptb
  | 0x08 => .rdctlExcAddr
  | 0x09 => .rdctlExcSum
  | 0x0A => .rdctlMmStat
  | 0x0B => .rdctlFaultVa
  | 0x0C => .rdctlCpuid
  | 0x0D => .rdctlPalBase
  | 0x0E => .rdctlIctl
  | 0x0F => .rdctlDctl
  | 0x10 => .rdctlItbTag
  | 0x11 => .rdctlItbPte
  | 0x12 => .rdctlItbIa
  | 0x13 => .rdctlItbIap
  | 0x14 => .rdctlItbIs
  | 0x18 => .rdctlDtbTag
  | 0x19 => .rdctlDtbPte
  | 0x1A => .rdctlDtbIa
  | 0x1B => .rdctlDtbIap
  | 0x1C => .rdctlDtbIs
  | _ => .rdctlOther id

/-- WRCTL of an id. -/
def wrctlOf (id : ByteField) (v : Word) : Instr :=
  match id.toNat with
  | 0x00 => .wrctlAsn v
  | 0x01 => .wrctlCm v
  | 0x02 => .wrctlIer v
  | 0x03 => .wrctlIpend v
  | 0x04 => .wrctlIsum v
  | 0x05 => .wrctlSirr v
  | 0x06 => .wrctlIvptb v
  | 0x07 => .wrctlDvptb v
  | 0x08 => .wrctlExcAddr v
  | 0x09 => .wrctlExcSum v
  | 0x0A => .wrctlMmStat v
  | 0x0B => .wrctlFaultVa v
  | 0x0C => .wrctlCpuid v
  | 0x0D => .wrctlPalBase v
  | 0x0E => .wrctlIctl v
  | 0x0F => .wrctlDctl v
  | 0x10 => .wrctlItbTag v
  | 0x11 => .wrctlItbPte v
  | 0x12 => .wrctlItbIa v
  | 0x13 => .wrctlItbIap v
  | 0x14 => .wrctlItbIs v
  | 0x18 => .wrctlDtbTag v
  | 0x19 => .wrctlDtbPte v
  | 0x1A => .wrctlDtbIa v
  | 0x1B => .wrctlDtbIap v
  | 0x1C => .wrctlDtbIs v
  | _ => .wrctlOther id v

/-! ## The opcode map (R84) -/

/-- The opcode map of R84: the command of an `OPC`, an `IDX` and a `MOD` with the operands of its record. -/
def decodeFields (opc : Nat) (idx md : ByteField) (c : Command) : Decoded :=
  match opc with
  | 0x01 => formatS idx md (fun st => .tblkup st c.a c.b)
  | 0x02 => formatS idx md (fun st => .tbins st c.a c.b)
  | 0x03 => formatS idx md (fun st => .tbia st)
  | 0x04 => formatS idx md (fun st => .tbiap st)
  | 0x05 => formatS idx md (fun st => .tbis st c.a)
  | 0x08 => formatK idx md (fun k => .xlate k c.a)
  | 0x09 => formatK idx md (fun k => .memx k c.a (if c.insnValid then some c.insn else none))
  | 0x10 => formatR md (rdctlOf idx)
  | 0x11 => formatR md (wrctlOf idx c.a)
  | 0x18 => formatG idx md c.a c.b
  | 0x19 => formatN idx md (.dispatch)
  | 0x1A => formatN idx md (.palret c.a)
  | 0x1B => formatN idx md (.irq c.a)
  | 0x1C => formatN idx md (.rs)
  | 0x1D => formatN idx md (.rc)
  | 0x20 => formatN idx md (.cvtfs c.a)
  | 0x21 => formatN idx md (.cvtsf (c.a.setWidth 32))
  | 0x22 => formatN idx md (.cvtgt c.a)
  | 0x23 => formatN idx md (.cvttg c.a)
  | 0x24 => formatN idx md (.lds (c.a.setWidth 32))
  | 0x25 => formatN idx md (.sts c.a)
  | 0x26 => formatN idx md (.ldt c.a)
  | 0x27 => formatN idx md (.stt c.a)
  | 0x28 => formatN idx md (.addlv c.a c.b)
  | 0x29 => formatN idx md (.sublv c.a c.b)
  | 0x2A => formatN idx md (.mullv c.a c.b)
  | 0x2B => formatN idx md (.addqv c.a c.b)
  | 0x2C => formatN idx md (.subqv c.a c.b)
  | 0x2D => formatN idx md (.mulqv c.a c.b)
  | 0x30 => formatX idx md (fun n => .rdgpr n)
  | 0x31 => formatX idx md (fun n => .wrgpr n c.a)
  | 0x32 => formatN idx md .rdpc
  | 0x33 => formatN idx md (.wrpc c.a)
  | _ => .illegal .reservedOpcode

/-- The decoder: every command record is a command or is rejected by name. -/
def decode (c : Command) : Decoded :=
  if zeroField c.w = 0#8 then decodeFields (opcField c.w).toNat (idxField c.w) (modField c.w) c else .illegal .zeroFieldSet

/-! ## The encoder -/

/-- A command word from its fields `OPC`, `IDX`, `MOD`, with `ZERO = 0` (R81). -/
def word (opc idx md : ByteField) : Word32 := opc ++ idx ++ md ++ 0#8

/-- `MOD[0]` of a stream (R82). -/
def streamCode (st : Stream) : ByteField :=
  match st with
  | .i => 0
  | .d => 1

/-- `MOD[1:0]` of an access kind (R82). -/
def kindCode (k : Kind) : ByteField :=
  match k with
  | .read => 0
  | .write => 1
  | .execute => 2

/-- A command record; an operand the command does not use is zero, INSN too where INSN_VALID = 0. -/
def command (w : Word32) (a b : Word) (insn : Option Word32) : Command :=
  { w := w, a := a, b := b, insn := insn.getD 0, insnValid := insn.isSome }

/-- The command record of a well-formed command, from the tables of R82, R83, R84, R85 and the ids of 10_state.md. -/
def encode (i : Instr) : Command :=
  match i with
  | .tblkup st va asn => command (word 0x01 0 (streamCode st)) va asn none
  | .tbins st va pte => command (word 0x02 0 (streamCode st)) va pte none
  | .tbia st => command (word 0x03 0 (streamCode st)) 0 0 none
  | .tbiap st => command (word 0x04 0 (streamCode st)) 0 0 none
  | .tbis st va => command (word 0x05 0 (streamCode st)) va 0 none
  | .xlate k va => command (word 0x08 0 (kindCode k)) va 0 none
  | .memx k va insn => command (word 0x09 0 (kindCode k)) va 0 insn
  | .rdctlAsn => command (word 0x10 0x00 0x00) 0 0 none
  | .rdctlCm => command (word 0x10 0x01 0x00) 0 0 none
  | .rdctlIer => command (word 0x10 0x02 0x00) 0 0 none
  | .rdctlIpend => command (word 0x10 0x03 0x00) 0 0 none
  | .rdctlIsum => command (word 0x10 0x04 0x00) 0 0 none
  | .rdctlSirr => command (word 0x10 0x05 0x00) 0 0 none
  | .rdctlIvptb => command (word 0x10 0x06 0x00) 0 0 none
  | .rdctlDvptb => command (word 0x10 0x07 0x00) 0 0 none
  | .rdctlExcAddr => command (word 0x10 0x08 0x00) 0 0 none
  | .rdctlExcSum => command (word 0x10 0x09 0x00) 0 0 none
  | .rdctlMmStat => command (word 0x10 0x0A 0x00) 0 0 none
  | .rdctlFaultVa => command (word 0x10 0x0B 0x00) 0 0 none
  | .rdctlCpuid => command (word 0x10 0x0C 0x00) 0 0 none
  | .rdctlPalBase => command (word 0x10 0x0D 0x00) 0 0 none
  | .rdctlIctl => command (word 0x10 0x0E 0x00) 0 0 none
  | .rdctlDctl => command (word 0x10 0x0F 0x00) 0 0 none
  | .rdctlItbTag => command (word 0x10 0x10 0x00) 0 0 none
  | .rdctlItbPte => command (word 0x10 0x11 0x00) 0 0 none
  | .rdctlItbIa => command (word 0x10 0x12 0x00) 0 0 none
  | .rdctlItbIap => command (word 0x10 0x13 0x00) 0 0 none
  | .rdctlItbIs => command (word 0x10 0x14 0x00) 0 0 none
  | .rdctlDtbTag => command (word 0x10 0x18 0x00) 0 0 none
  | .rdctlDtbPte => command (word 0x10 0x19 0x00) 0 0 none
  | .rdctlDtbIa => command (word 0x10 0x1A 0x00) 0 0 none
  | .rdctlDtbIap => command (word 0x10 0x1B 0x00) 0 0 none
  | .rdctlDtbIs => command (word 0x10 0x1C 0x00) 0 0 none
  | .rdctlOther id => command (word 0x10 id 0) 0 0 none
  | .wrctlAsn v => command (word 0x11 0x00 0x00) v 0 none
  | .wrctlCm v => command (word 0x11 0x01 0x00) v 0 none
  | .wrctlIer v => command (word 0x11 0x02 0x00) v 0 none
  | .wrctlIpend v => command (word 0x11 0x03 0x00) v 0 none
  | .wrctlIsum v => command (word 0x11 0x04 0x00) v 0 none
  | .wrctlSirr v => command (word 0x11 0x05 0x00) v 0 none
  | .wrctlIvptb v => command (word 0x11 0x06 0x00) v 0 none
  | .wrctlDvptb v => command (word 0x11 0x07 0x00) v 0 none
  | .wrctlExcAddr v => command (word 0x11 0x08 0x00) v 0 none
  | .wrctlExcSum v => command (word 0x11 0x09 0x00) v 0 none
  | .wrctlMmStat v => command (word 0x11 0x0A 0x00) v 0 none
  | .wrctlFaultVa v => command (word 0x11 0x0B 0x00) v 0 none
  | .wrctlCpuid v => command (word 0x11 0x0C 0x00) v 0 none
  | .wrctlPalBase v => command (word 0x11 0x0D 0x00) v 0 none
  | .wrctlIctl v => command (word 0x11 0x0E 0x00) v 0 none
  | .wrctlDctl v => command (word 0x11 0x0F 0x00) v 0 none
  | .wrctlItbTag v => command (word 0x11 0x10 0x00) v 0 none
  | .wrctlItbPte v => command (word 0x11 0x11 0x00) v 0 none
  | .wrctlItbIa v => command (word 0x11 0x12 0x00) v 0 none
  | .wrctlItbIap v => command (word 0x11 0x13 0x00) v 0 none
  | .wrctlItbIs v => command (word 0x11 0x14 0x00) v 0 none
  | .wrctlDtbTag v => command (word 0x11 0x18 0x00) v 0 none
  | .wrctlDtbPte v => command (word 0x11 0x19 0x00) v 0 none
  | .wrctlDtbIa v => command (word 0x11 0x1A 0x00) v 0 none
  | .wrctlDtbIap v => command (word 0x11 0x1B 0x00) v 0 none
  | .wrctlDtbIs v => command (word 0x11 0x1C 0x00) v 0 none
  | .wrctlOther id v => command (word 0x11 id 0) v 0 none
  | .raiseGOpcdec aux => command (word 0x18 0x00 0x01) 0 aux none
  | .raiseGArith aux => command (word 0x18 0x01 0x01) 0 aux none
  | .raiseGFen aux => command (word 0x18 0x02 0x01) 0 aux none
  | .raiseGInterrupt aux => command (word 0x18 0x03 0x01) 0 aux none
  | .raiseV off aux => command (word 0x18 0x00 0x00) (off.setWidth 64) aux none
  | .dispatch => command (word 0x19 0x00 0x00) 0 0 none
  | .palret target => command (word 0x1A 0x00 0x00) target 0 none
  | .irq lines => command (word 0x1B 0x00 0x00) lines 0 none
  | .rs => command (word 0x1C 0x00 0x00) 0 0 none
  | .rc => command (word 0x1D 0x00 0x00) 0 0 none
  | .cvtfs a => command (word 0x20 0x00 0x00) a 0 none
  | .cvtsf b => command (word 0x21 0x00 0x00) (b.setWidth 64) 0 none
  | .cvtgt a => command (word 0x22 0x00 0x00) a 0 none
  | .cvttg b => command (word 0x23 0x00 0x00) b 0 none
  | .lds m => command (word 0x24 0x00 0x00) (m.setWidth 64) 0 none
  | .sts r => command (word 0x25 0x00 0x00) r 0 none
  | .ldt m => command (word 0x26 0x00 0x00) m 0 none
  | .stt r => command (word 0x27 0x00 0x00) r 0 none
  | .addlv a b => command (word 0x28 0x00 0x00) a b none
  | .sublv a b => command (word 0x29 0x00 0x00) a b none
  | .mullv a b => command (word 0x2A 0x00 0x00) a b none
  | .addqv a b => command (word 0x2B 0x00 0x00) a b none
  | .subqv a b => command (word 0x2C 0x00 0x00) a b none
  | .mulqv a b => command (word 0x2D 0x00 0x00) a b none
  | .rdgpr n => command (word 0x30 (n.setWidth 8) 0) 0 0 none
  | .wrgpr n v => command (word 0x31 (n.setWidth 8) 0) v 0 none
  | .rdpc => command (word 0x32 0x00 0x00) 0 0 none
  | .wrpc v => command (word 0x33 0x00 0x00) v 0 none

/-! ## Command records as numbers -/

/-- The command record whose bits are `n`, numbered as spec/opcode_table.json numbers them: `W` is bits 31:0, and the operand
ports follow it, `A` at 95:32, `B` at 159:96, `INSN` at 191:160, `INSN_VALID` at 192 (log entry 11). -/
def Command.ofNat (n : Nat) : Command :=
  { w := BitVec.ofNat 32 n
    a := BitVec.ofNat 64 (n >>> 32)
    b := BitVec.ofNat 64 (n >>> 96)
    insn := BitVec.ofNat 32 (n >>> 160)
    insnValid := n.testBit 192 }

/-- The command record of an opcode-table word: `nbits` bits `w`, every bit above them 0 (log entry 11). -/
def Command.ofTableWord (nbits w : Nat) : Command := Command.ofNat (w % 2 ^ nbits)

/-- The instruction the decoder reads from a word of spec/opcode_table.json. -/
def decodeTableWord (nbits w : Nat) : Option Instr :=
  match decode (Command.ofTableWord nbits w) with
  | .instr i => some i
  | .illegal _ => none

end Sys2Proof
end

