-- ==== Sys2Proof/Config.lean ====
section
/-! DEFINITION. The named parameters of 00_scope.md R8, which "a model MUST take as arguments and MUST NOT bake into
rules", with the defaults of R8, R123 and R292, the conditions a configuration must meet (93_implementation_defined.md
U27 and the widths of the rules), and the free values. A `Config` is plain data and stands in `Machine.State`: a
statement about every state is a statement about every configuration (log entry 6). -/

namespace Sys2Proof

namespace Config

/-- The call-class test of a configuration that gives it as an arbitrary predicate (R8, R205). No body: nothing can
evaluate it, so a statement about it holds for every predicate (log entry 7). -/
opaque anyCallVec : Offset → Bool

/-- `F_UNDERFLOW` of a configuration that gives it as an arbitrary function of sign, exponent and fraction (R233). -/
opaque anyFUnderflow : Bool → BitVec 8 → BitVec 23 → Word32

/-- `G_UNDERFLOW` of a configuration that gives it as an arbitrary function of sign, exponent and fraction (R236). -/
opaque anyGUnderflow : Bool → BitVec 11 → BitVec 52 → Word

/-- The `match` half of superpage window `k` of a configuration that gives it as an arbitrary predicate (R123). -/
opaque anyWindowMatch : Nat → Word → Bool

/-- The `pa` half of superpage window `k` of a configuration that gives it as an arbitrary function (R123). -/
opaque anyWindowPa : Nat → Word → Word

/-- The free values of the model: what a register the spec calls "unspecified" holds after the reset input is asserted
(93_implementation_defined.md U18, "any value"; log entry 5). -/
opaque unspecified : Nat → Word

end Config

/-- `IS_CALL_VEC`: "predicate: the offset is of the 'call' class" (R8). -/
inductive CallClass where
  /-- The offsets at or above a bound: the form of the default `off >= 0x2000`. -/
  | atLeast (bound : Offset)
  /-- An arbitrary predicate, `Config.anyCallVec`. -/
  | arbitrary
deriving DecidableEq, Repr

/-- `F_UNDERFLOW` and `G_UNDERFLOW`: "result of VAX to IEEE when the exponent is 1 or 2" (R8), an IEEE number of `w` bits. -/
inductive Underflow (w : Nat) where
  /-- One value whatever the operand: the form of the default `+0`. -/
  | constant (v : BitVec w)
  /-- An arbitrary function, `Config.anyFUnderflow` or `Config.anyGUnderflow`. -/
  | arbitrary
deriving DecidableEq, Repr

/-- Which entries a page flush removes (log entry 16). -/
inductive FlushReach where
  /-- Those that cover the operand: R107's pseudocode and R109. -/
  | covering
  /-- Those, and every live entry inside the page of one of them: R75's "any address in that range misses". -/
  | wholeRange
deriving DecidableEq, Repr

/-- One superpage window, "a pair (match, pa)" (R123). -/
inductive Window where
  /-- `match(va)` is `va[hi:lo] == value`; `pa(va)` is the low `width` bits of `va`, sign- or zero-extended: the form of
  the three default windows. -/
  | field (hi lo value width : Nat) (signed : Bool)
  /-- An arbitrary pair, `Config.anyWindowMatch` and `Config.anyWindowPa` at the window's number. -/
  | arbitrary
deriving DecidableEq, Repr

/-- The parameters of R8, under R8's names, and one of the model's own, `flushReach`. -/
structure Config where
  /-- `PAGE_SHIFT`, log2 of the base page in bytes. -/
  pageShift : Nat
  /-- `PA_BITS`, physical address width. -/
  paBits : Nat
  /-- `ASN_BITS`, width of the ASN field. -/
  asnBits : Nat
  /-- `GH3_SHIFT`, page shift added when the granularity hint field is 3. -/
  gh3Shift : Nat
  /-- `NGPR`, number of general registers. -/
  ngpr : Nat
  /-- `NFPR`, number of floating registers. -/
  nfpr : Nat
  /-- `SHADOW_SET`, the eight general registers that have shadow copies, in order. -/
  shadowSet : List Nat
  /-- `CALL_LINK_REG`, the register that receives the PC on a call-class entry. -/
  callLinkReg : Nat
  /-- `IS_CALL_VEC`. -/
  callClass : CallClass
  /-- `SPW[0]`. -/
  spw0 : Window
  /-- `SPW[1]`. -/
  spw1 : Window
  /-- `SPW[2]`. -/
  spw2 : Window
  /-- `HWINT_SHIFT`, position of the hardware lines in IPEND. -/
  hwintShift : Nat
  /-- `HWINT_COUNT`, number of hardware lines. -/
  hwintCount : Nat
  /-- `SWINT_MASK`, the software-interrupt bits of IPEND and SIRR. -/
  swintMask : Word
  /-- `CPUID_VALUE`. -/
  cpuidValue : Word
  /-- `F_UNDERFLOW`. -/
  fUnderflow : Underflow 32
  /-- `G_UNDERFLOW`. -/
  gUnderflow : Underflow 64
  /-- `ASN_WRITE_FLUSHES`. -/
  asnWriteFlushes : Bool
  /-- The model's own, no parameter of R8: how far a page flush reaches, on which R107 and R75 disagree (log entry 16). -/
  flushReach : FlushReach
  /-- `ARITH_AUX_IOV`, the auxiliary value of the integer-overflow arithmetic trap. -/
  arithAuxIov : Word
  /-- `VEC_DTBM_DOUBLE` (R292), as the further `VEC_*` below. -/
  vecDtbmDouble : Offset
  vecFen : Offset
  /-- `VEC_UNALIGN`, for the engine only: no rule of the block reads it. -/
  vecUnalign : Offset
  vecDtbmSingle : Offset
  vecDfault : Offset
  vecOpcdec : Offset
  vecIacv : Offset
  /-- `VEC_MCHK`, for the engine only. -/
  vecMchk : Offset
  vecItbMiss : Offset
  vecArith : Offset
  vecInterrupt : Offset
  /-- `VEC_MT_FPCR`, for the engine only. -/
  vecMtFpcr : Offset
  /-- `VEC_RESET`, the reset value of `pc`. -/
  vecReset : Offset
deriving DecidableEq, Repr

namespace Config

/-- `TLB_ENTRIES = 128` per stream, a number the source fixes (R7). -/
abbrev tlbEntries : Nat := 128

/-- The default column of R8, the windows of R123 and the vector offsets of R292. -/
def default : Config where
  pageShift := 13
  paBits := 44
  asnBits := 8
  gh3Shift := 9
  ngpr := 32
  nfpr := 32
  shadowSet := [4, 5, 6, 7, 20, 21, 22, 23]
  callLinkReg := 23
  callClass := .atLeast 0x2000
  spw0 := .field 47 30 0x3FFFE 30 false
  spw1 := .field 47 41 0x7E 41 true
  spw2 := .field 47 46 2 44 false
  hwintShift := 33
  hwintCount := 6
  swintMask := 0x1FFFC000
  cpuidValue := 0
  fUnderflow := .constant 0
  gUnderflow := .constant 0
  asnWriteFlushes := true
  flushReach := .covering
  arithAuxIov := 0x40
  vecDtbmDouble := 0x100
  vecFen := 0x200
  vecUnalign := 0x280
  vecDtbmSingle := 0x300
  vecDfault := 0x380
  vecOpcdec := 0x400
  vecIacv := 0x480
  vecMchk := 0x500
  vecItbMiss := 0x580
  vecArith := 0x600
  vecInterrupt := 0x680
  vecMtFpcr := 0x700
  vecReset := 0x780

/-- What a configuration must meet: the shadow set and link register U27 asks for, and the widths under which every field
of the rules lies inside its word (log entry 8). -/
def wf (c : Config) : Bool :=
  decide (c.pageShift ≤ c.paBits) && decide (c.paBits ≤ 64) && decide (c.paBits - c.pageShift ≤ 32)
    && decide (c.asnBits ≤ 64) && decide (c.pageShift + 6 < 64) && decide (c.pageShift + c.gh3Shift < 64)
    && decide (32 ≤ c.ngpr) && decide (c.shadowSet.length = 8) && decide c.shadowSet.Nodup
    && c.shadowSet.all (fun r => decide (r < c.ngpr ∧ r ≠ 31))
    && decide (c.callLinkReg < c.ngpr ∧ c.callLinkReg ≠ 31)
    && decide (c.hwintShift + c.hwintCount ≤ 64)
    && decide ((((1#64 <<< c.hwintCount) - 1#64) <<< c.hwintShift) &&& c.swintMask = 0#64)

end Config

end Sys2Proof
end

