-- ==== Sys2Proof/Machine/State.lean ====
section
/-! DEFINITION. The state of the block as plain data (10_state.md), its reset value (70_reset_and_hazards.md R330), and the
ways a step can end. `CR.ISUM` and `irq_line` are functions of this state (R31, R47) and stand in Machine/Flags.lean; `CR.CPUID`
is `cfg.cpuidValue` (R38). The block holds no memory (R51, R62). -/

namespace Sys2Proof.Machine

/-- "the four 'generic' conditions (illegal-operation, arithmetic-trap, floating-point-disabled, interrupt)" (R200). -/
inductive Generic where
  | opcdec
  | arith
  | fen
  | interrupt
deriving DecidableEq, Repr

/-- A condition: "`Generic(g)`" or "`Vectored(off)` with `off` a 16-bit offset" (R200). -/
inductive Condition where
  | generic (g : Generic)
  | vectored (off : Offset)
deriving DecidableEq, Repr

/-- The translation context `xlate_ctx` (R26). -/
inductive XlateCtx where
  | normal
  | pal
deriving DecidableEq, Repr

/-- One slot of a translation cache (R41). `ppn` has `PA_BITS - PAGE_SHIFT` bits and `asn` has `ASN_BITS` bits; their widths
are parameters, so both are held in a 64-bit vector whose higher bits are zero (`Safety.lean`, `SlotWidths`). -/
structure Slot where
  live : Bool
  tag : Word
  ppn : Word
  flags : BitVec 16
  asn : Word
deriving DecidableEq, Repr

/-- One translation cache: `slot[0..TLB_ENTRIES-1]` and the cyclic index `next` (R41). -/
structure Tlb where
  slots : List Slot
  next : Nat
deriving DecidableEq, Repr

/-- "`cap` is the 'read/write/execute capability mask', a subset of {R, W, X}" (R120). -/
structure Cap where
  r : Bool
  w : Bool
  x : Bool
deriving DecidableEq, Repr

/-- The failure half of the descriptor (R120, R128). -/
inductive FaultReason where
  | badVirtualAddress
  | miss (existed : Bool)
  | accessViolation (acv onRead onWrite : Bool)
deriving DecidableEq, Repr

/-- What a translation answers: `Ok(pa, cap)` or `Err(reason)` (R120). -/
inductive Translation where
  | ok (pa : Word) (cap : Cap)
  | err (reason : FaultReason)
deriving DecidableEq, Repr

/-- The result `R` of a command that is done: a 64-bit value or "the record the rule names" (R80, R83). -/
inductive Result where
  | value (v : Word)
  /-- TBLKUP: the slot's index and a copy of the slot, or `None` (R101). -/
  | lookup (hit : Option (Nat × Slot))
  /-- XLATE and MEMX: the descriptor (R120, R130). -/
  | translation (t : Translation)
deriving DecidableEq, Repr

/-- The diagnostics of the `diag` event (R103, R153, R175). -/
inductive Diag where
  | reservedGh (st : Stream) (pte : Word)
  | unmodeledWrite (id : ByteField) (value : Word)
  | reservedBits (id : ByteField) (value : Word)
deriving DecidableEq, Repr

/-- A message on the event output (R50). -/
inductive Event where
  | icacheInvalAll
  | icacheInvalPage (va : Word)
  | diag (d : Diag)
deriving DecidableEq, Repr

/-- The outcomes of a command that leave a next state: `Done(result)` and `Fault(cond)` (R11). The third, `Refuse(reason)`, is
`Refusal`. -/
inductive CommandOutcome where
  | done (r : Result)
  | fault (c : Condition)
deriving DecidableEq, Repr

/-- "The reply is `(outcome, R, events)`" (R80). -/
structure Reply where
  outcome : CommandOutcome
  events : List Event
deriving DecidableEq, Repr

/-- What the outside sends the block: a command of the engine or of the interrupt source (R80, R210), or the reset input
(R330). -/
inductive Input where
  | command (c : Command)
  | reset
deriving DecidableEq, Repr

/-- The state of the block. -/
structure State where
  /-- The parameters of R8 (log entry 6). -/
  cfg : Config
  /-- General registers `x[0..NGPR-1]` (R20). -/
  x : List Word
  /-- Floating registers `f[0..NFPR-1]` (R22). -/
  f : List Word
  /-- Shadow registers `sh[0..7]` (R23). -/
  sh : List Word
  /-- Program counter (R24). -/
  pc : Word
  /-- Privileged-mode flag (R25). -/
  pal : Bool
  /-- Translation context `xlate_ctx` (R26). -/
  xlateCtx : XlateCtx
  /-- `CR.ASN`, `ASN_BITS` bits (R27). -/
  asn : Word
  /-- `CR.CM` (R28). -/
  cm : BitVec 2
  /-- `CR.IER` (R29). -/
  ier : Word
  /-- `CR.IPEND` (R30). -/
  ipend : Word
  /-- `CR.SIRR` (R32). -/
  sirr : Word
  /-- `CR.IVPTB` (R33). -/
  ivptb : Word
  /-- `CR.DVPTB` (R33). -/
  dvptb : Word
  /-- `CR.EXC_ADDR` (R34). -/
  excAddr : Word
  /-- `CR.EXC_SUM` (R35). -/
  excSum : Word
  /-- `CR.MM_STAT`, 10 bits (R36). -/
  mmStat : BitVec 10
  /-- `CR.FAULT_VA` (R37). -/
  faultVa : Word
  /-- `CR.PAL_BASE` (R39). -/
  palBase : Word
  /-- `CR.ICTL`, 6 bits: `SDE` 0, `CALLR` 1, `VA48` 2, `SPE` 5:3 (R40). -/
  ictl : BitVec 6
  /-- `CR.DCTL`, 6 bits: `VA48` 2, `SPE` 5:3, bits 1:0 zero (R40). -/
  dctl : BitVec 6
  /-- `tlb[I]` (R41). -/
  itb : Tlb
  /-- `tlb[D]` (R41). -/
  dtb : Tlb
  /-- The raised-condition slot `exc.cond` (R44). -/
  excCond : Option Condition
  /-- The auxiliary error code `exc.aux` (R45). -/
  excAux : Word
  /-- `intr_flag` (R46). -/
  intrFlag : Bool
  /-- The tag latch `itb_tag` (R48). -/
  itbTag : Word
  /-- The tag latch `dtb_tag` (R48). -/
  dtbTag : Word
  /-- The model's own: what has been sent to the block and not taken yet, oldest first (log entry 9). -/
  inputs : List Input
  /-- The model's own: the reply of the last command (R50: "A model records them in the command's result"; log entry 12). -/
  reply : Option Reply
  /-- The model's own: how many free values the reset input has handed out (log entry 5). -/
  draws : Nat
deriving DecidableEq, Repr

/-- No step of this machine stops with a fault: a condition a command raises is a next state (R11, R44, R201), and every stop
of the spec is the outcome `Refuse` (R11, R306). No constructor, so nothing raises one: safe. -/
inductive Fault where
deriving DecidableEq, Repr

/-- The outcome `Refuse(reason)` of R11: "the command violates the engine's contract or is a reserved encoding; no state
changes". "A model treats `Refuse` as the machine having no meaning for the command". Every constructor is safe: the model
stops where the spec gives the command no meaning. -/
inductive Refusal where
  /-- An instruction whose arm of `exec` has no meaning yet; raised by `exec` only. Safe. -/
  | notModelled (mnemonic : String)
  /-- `Refuse(IllegalCommand)`: the word is illegal (R86); raised by `step` when the decoder rejects a command. Safe. -/
  | illegalCommand (why : IllegalCommand)
  /-- `Refuse(NoCodeBlockContext)`: raised by MEMX on a failing data-stream translation with INSN_VALID = 0 (R131). Safe. -/
  | noCodeBlockContext
  /-- `Refuse(ConditionAlreadyRaised)`: raised by RAISE, and by every command that would raise, while `exc.cond != None`
  (R201, R130). Safe. -/
  | conditionAlreadyRaised
  /-- `Refuse(NothingRaised)`: raised by DISPATCH while `exc.cond == None` (R202). Safe. -/
  | nothingRaised
  /-- `Refuse(NotPrivileged)`: raised by PALRET while `pal == 0` (R207). Safe. -/
  | notPrivileged
deriving DecidableEq, Repr

/-- A slot after reset: "every `live = 0`, ... the other fields unspecified" (R41); zero by log entry 4. -/
def Slot.empty : Slot := { live := false, tag := 0, ppn := 0, flags := 0, asn := 0 }

/-- A translation cache after reset (R41): every slot dead, `next = 0`. -/
def Tlb.empty : Tlb := { slots := List.replicate Config.tlbEntries Slot.empty, next := 0 }

/-- The block right after reset under a configuration (R330); registers whose value R330 leaves "unspecified" are zero by log
entries 1, 2 and 3. -/
def State.resetWith (c : Config) : State where
  cfg := c
  x := List.replicate c.ngpr 0
  f := List.replicate c.nfpr 0
  sh := List.replicate 8 0
  pc := c.vecReset.setWidth 64
  pal := true
  xlateCtx := .pal
  asn := 0
  cm := 0
  ier := 0
  ipend := 0
  sirr := 0
  ivptb := 0
  dvptb := 0
  excAddr := 0
  excSum := 0
  mmStat := 0
  faultVa := 0
  palBase := 0
  ictl := 0
  dctl := 0
  itb := Tlb.empty
  dtb := Tlb.empty
  excCond := none
  excAux := 0
  intrFlag := false
  itbTag := 0
  dtbTag := 0
  inputs := []
  reply := none
  draws := 0

/-- The block right after reset with the default parameters of R8. -/
def State.reset : State := State.resetWith Config.default

end Sys2Proof.Machine
end

