-- ==== Sys2Proof/Machine/Operands.lean ====
section
/-! DEFINITION. How operands are read: bit fields and sign extension (00_scope.md R9), the parts of a narrow operand
(30_encoding.md R83), of `pte_bits` (40_tlb.md R103), of a slot's flags (10_state.md R42), of ICTL and DCTL (R40) and of the
instruction word (41_translate.md R131), and the parameters that are functions (R8). -/

namespace Sys2Proof.Machine

/-! ## Bit fields (R9) -/

/-- `(1 << n) - 1`: the `n` low bits set. -/
def lowMask (n : Nat) : Word := (1#64 <<< n) - 1#64

/-- `v[lo + len - 1 : lo]`, for a field whose place is a parameter. -/
def field (v : Word) (lo len : Nat) : Word := (v >>> lo) &&& lowMask len

/-- `sext_n(v)`: "takes the low N bits of v and sign-extends bit N-1 to 64 bits" (R9). -/
def sext (n : Nat) (v : Word) : Word := (v.setWidth n).signExtend 64

/-- A bit as a 64-bit value. -/
def bitWord (b : Bool) : Word := if b then 1#64 else 0#64

/-! ## Interrupt fields (R29, R30) -/

/-- `HWINT_MASK = ((1 << HWINT_COUNT) - 1) << HWINT_SHIFT` (R29). -/
def hwintMask (c : Config) : Word := lowMask c.hwintCount <<< c.hwintShift

/-- `IER_MASK = HWINT_MASK | SWINT_MASK` (R29). -/
def ierMask (c : Config) : Word := hwintMask c ||| c.swintMask

/-- The hardware field of IPEND for an IRQ operand: `zext(A[HWINT_COUNT-1:0]) << HWINT_SHIFT` (R210). -/
def irqLines (c : Config) (a : Word) : Word := (a &&& lowMask c.hwintCount) <<< c.hwintShift

/-! ## ASN operands (R83, R101, R154) -/

/-- `v[ASN_BITS-1:0]`. -/
def asnOf (c : Config) (v : Word) : Word := v &&& lowMask c.asnBits

/-! ## `pte_bits` (R103) -/

/-- "bits 15:0 are the flags"; "reserved bits 3 and 7 stored as 0" (R103, R104). -/
def pteFlags (pte : Word) : BitVec 16 := pte.setWidth 16 &&& 0xFF77#16

/-- "bits `32 + (PA_BITS - PAGE_SHIFT) - 1 : 32` are the physical page number" (R103). -/
def ptePpn (c : Config) (pte : Word) : Word := field pte 32 (c.paBits - c.pageShift)

/-- "`pte_bits[6:5] == 3`" (R104). -/
def pteGhReserved (pte : Word) : Bool := pte.extractLsb' 5 2 == 3#2

/-! ## The flags of a slot (R42) -/

/-- `V`, bit 0. -/
def Slot.valid (e : Slot) : Bool := e.flags.getLsbD 0

/-- `FOR`, bit 1. -/
def Slot.faultOnRead (e : Slot) : Bool := e.flags.getLsbD 1

/-- `FOW`, bit 2. -/
def Slot.faultOnWrite (e : Slot) : Bool := e.flags.getLsbD 2

/-- `ASM`, bit 4: the entry is global. -/
def Slot.isGlobal (e : Slot) : Bool := e.flags.getLsbD 4

/-- `GH`, bits 6:5. -/
def Slot.gh (e : Slot) : BitVec 2 := e.flags.extractLsb' 5 2

/-- `RE(e, m) = (e.flags >> m)[8]`. -/
def Slot.readEnable (e : Slot) (m : BitVec 2) : Bool := (e.flags >>> m.toNat).getLsbD 8

/-- `WE(e, m) = (e.flags >> m)[12]`. -/
def Slot.writeEnable (e : Slot) (m : BitVec 2) : Bool := (e.flags >>> m.toNat).getLsbD 12

/-- `gh_shift(e) = 0, 3, 6, GH3_SHIFT for GH = 0, 1, 2, 3`. -/
def Slot.ghShift (c : Config) (e : Slot) : Nat :=
  match e.gh.toNat with
  | 0 => 0
  | 1 => 3
  | 2 => 6
  | _ => c.gh3Shift

/-- `page_shift(e) = PAGE_SHIFT + gh_shift(e)`. -/
def Slot.pageShift (c : Config) (e : Slot) : Nat := c.pageShift + e.ghShift c

/-! ## ICTL and DCTL (R40) -/

/-- `SDE`: "shadow-register mode enabled". -/
def State.sde (s : State) : Bool := s.ictl.getLsbD 0

/-- `CALLR`: "'save return address on call' enabled". -/
def State.callr (s : State) : Bool := s.ictl.getLsbD 1

/-- The control register of a stream: "`C <- (s == I) ? CR.ICTL : CR.DCTL`" (R120). -/
def State.streamCtl (s : State) (st : Stream) : BitVec 6 :=
  match st with
  | .i => s.ictl
  | .d => s.dctl

/-- The canonical width of a stream: "`VA48`: 1 = 48 bits, 0 = 43 bits" (R40). -/
def State.vaWidth (s : State) (st : Stream) : Nat := if (s.streamCtl st).getLsbD 2 then 48 else 43

/-- `SPE[k]` of a stream. -/
def State.spe (s : State) (st : Stream) (k : Nat) : Bool := (s.streamCtl st).getLsbD (3 + k)

/-! ## The instruction word (R131) -/

/-- "`INSN[31:26]` as the opcode". -/
def insnOpcode (insn : Word32) : BitVec 6 := insn.extractLsb' 26 6

/-- "`INSN[25:21]` as the target register index". -/
def insnReg (insn : Word32) : BitVec 5 := insn.extractLsb' 21 5

/-- `EXC_SUM` of a data-stream fault: `INSN[25:21] << 8` (R133). -/
def excSumOf (insn : Word32) : Word := (insnReg insn).setWidth 64 <<< 8

/-! ## The parameters that are functions (R8, log entry 7) -/

/-- `IS_CALL_VEC(off)`. -/
def isCallVec (c : Config) (off : Offset) : Bool :=
  match c.callClass with
  | .atLeast bound => decide (bound.toNat ≤ off.toNat)
  | .arbitrary => Config.anyCallVec off

/-- `F_UNDERFLOW(s, e8, f)`, an IEEE single. -/
def fUnderflow (c : Config) (s : Bool) (e : BitVec 8) (f : BitVec 23) : Word32 :=
  match c.fUnderflow with
  | .constant v => v
  | .arbitrary => Config.anyFUnderflow s e f

/-- `G_UNDERFLOW(s, e, f)`, an IEEE double. -/
def gUnderflow (c : Config) (s : Bool) (e : BitVec 11) (f : BitVec 52) : Word :=
  match c.gUnderflow with
  | .constant v => v
  | .arbitrary => Config.anyGUnderflow s e f

/-- `SPW[k]`. -/
def window (c : Config) (k : Nat) : Window :=
  match k with
  | 0 => c.spw0
  | 1 => c.spw1
  | _ => c.spw2

/-- `SPW[k].match(va)` (R123). -/
def windowMatch (c : Config) (k : Nat) (va : Word) : Bool :=
  match window c k with
  | .field hi lo value _ _ => field va lo (hi + 1 - lo) == BitVec.ofNat 64 value
  | .arbitrary => Config.anyWindowMatch k va

/-- `SPW[k].pa(va)` (R123). DESIGN CHOICE: R123's table writes the default mappings for `PA_BITS = 44` only, and R61 says that
they depend on `PA_BITS` without saying how; the model extends the window's `width` bits to 64 and keeps the low `PA_BITS` of
them, so that of window 1 the bits from 41 to `PA_BITS - 1` copy bit 40 (log entry 20). -/
def windowPa (c : Config) (k : Nat) (va : Word) : Word :=
  (match window c k with
    | .field _ _ _ width signed => if signed then sext width va else va &&& lowMask width
    | .arbitrary => Config.anyWindowPa k va) &&& lowMask c.paBits

end Sys2Proof.Machine
end

