-- ==== Sys2Proof/Machine/Flags.lean ====
section
/-! DEFINITION. The block has no condition codes (40_tlb.md, template; 45_arith_trap.md); what it computes in their place:
the interrupt summary and request line (10_state.md R31, R47), the permission test and its capability mask (41_translate.md
R126, R127), the memory-fault status (R133), and signed overflow (45_arith_trap.md R260). -/

namespace Sys2Proof.Machine

/-- "`CR.ISUM = CR.IPEND & CR.IER` in every state" (R31). -/
def State.isum (s : State) : Word := s.ipend &&& s.ier

/-- "`irq_line = (CR.ISUM != 0) && (pal == 0)`" (R47). -/
def State.irqLine (s : State) : Bool := s.isum != 0#64 && !s.pal

/-! ## Permission (R126, R127) -/

/-- `acv`: the mode's enable for this kind is clear; Execute tests the read enable. -/
def accessDenied (k : Kind) (e : Slot) (m : BitVec 2) : Bool :=
  match k with
  | .read => !e.readEnable m
  | .write => !e.writeEnable m
  | .execute => !e.readEnable m

/-- `for_`: a Read of an entry with `FOR` set. -/
def readFaults (k : Kind) (e : Slot) : Bool :=
  match k with
  | .read => e.faultOnRead
  | .write | .execute => false

/-- `fow`: a Write to an entry with `FOW` set. -/
def writeFaults (k : Kind) (e : Slot) : Bool :=
  match k with
  | .write => e.faultOnWrite
  | .read | .execute => false

/-- "`R` iff read enabled and not `FOR`; `W` iff write enabled and not `FOW`; `X` iff read enabled" (R127). -/
def capOf (e : Slot) (m : BitVec 2) : Cap where
  r := e.readEnable m && !e.faultOnRead
  w := e.writeEnable m && !e.faultOnWrite
  x := e.readEnable m

/-! ## The memory-fault status (R133) -/

/-- The bits `FOW`, `FOR`, `ACV` of a failed translation, in this order from the high bit (R133). -/
def violationBits (r : FaultReason) : BitVec 3 :=
  match r with
  | .badVirtualAddress => BitVec.ofBool false ++ BitVec.ofBool false ++ BitVec.ofBool true
  | .miss _ => 0#3
  | .accessViolation acv onRead onWrite => BitVec.ofBool onWrite ++ BitVec.ofBool onRead ++ BitVec.ofBool acv

/-- `mmstat(kind, r, INSN)`: WR bit 0, ACV 1, FOR 2, FOW 3, OPCODE 9:4 (R36, R133). -/
def mmstat (k : Kind) (r : FaultReason) (insn : Word32) : BitVec 10 :=
  insnOpcode insn ++ violationBits r ++ BitVec.ofBool (k == .write)

/-! ## Signed overflow (R260) -/

/-- Whether a mathematical integer lies in the signed range of `n` bits. -/
def inSignedRange (n : Nat) (m : Int) : Bool := decide (-(2 : Int) ^ (n - 1) ≤ m) && decide (m ≤ (2 : Int) ^ (n - 1) - 1)

end Sys2Proof.Machine
end

