-- ==== Sys2Proof/Machine/Ops.lean ====
section
/-! DEFINITION. The operations the commands share: the register file and the shadow swap (10_state.md R21, R23), the two
translation caches as state, ending a command with a reply (00_scope.md R11), raising a condition (43_dispatch.md R201),
taking it (R203) and returning from it (R207), and the two diagnosed kinds of register write (R153, R175). -/

namespace Sys2Proof.Machine

/-- What one command answers. -/
abbrev Step := Host.Outcome State Fault Refusal

/-! ## General registers (R21, R23) -/

/-- `x[n]`: "`x[31]` reads as zero" (R21). -/
def readReg (xs : List Word) (n : Nat) : Word := if n = 31 then 0#64 else xs.getD n 0#64

/-- `x[n] <- v`: "`x[31]` ... ignores writes" (R21). -/
def writeReg (xs : List Word) (n : Nat) (v : Word) : List Word := if n = 31 then xs else xs.set n v

/-- `x[n]` of a state. -/
def State.readX (s : State) (n : Nat) : Word := readReg s.x n

/-- A state with its general registers replaced. -/
def State.setX (xs : List Word) (s : State) : State := { s with x := xs }

/-- `x[n] <- v` on a state. -/
def State.writeX (n : Nat) (v : Word) (s : State) : State := s.setX (writeReg s.x n v)

/-- The swap on a pair of banks from shadow register `j` on, pair by pair as R23's loop. -/
def swapBanks : List Nat → Nat → List Word × List Word → List Word × List Word
  | [], _, banks => banks
  | r :: rs, j, (xs, sh) => swapBanks rs (j + 1) (writeReg xs r (sh.getD j 0#64), sh.set j (readReg xs r))

/-- A state with both banks replaced. -/
def State.setBanks (banks : List Word × List Word) (s : State) : State := { s with x := banks.1, sh := banks.2 }

/-- `swap_shadow()`: "for j in 0..7: t <- x[SHADOW_SET[j]]; x[SHADOW_SET[j]] <- sh[j]; sh[j] <- t" (R23). -/
def State.swapShadow (s : State) : State := s.setBanks (swapBanks s.cfg.shadowSet 0 (s.x, s.sh))

/-! ## Translation caches as state (R41) -/

/-- `tlb[st]`. -/
def State.tlb (s : State) (st : Stream) : Tlb :=
  match st with
  | .i => s.itb
  | .d => s.dtb

/-- `tlb[st] <- t`. -/
def State.setTlb (st : Stream) (t : Tlb) (s : State) : State :=
  { s with
    itb := if st = .i then t else s.itb
    dtb := if st = .d then t else s.dtb }

/-! ## Ending a command (R11, R80) -/

/-- A state with the reply of the command that ends in it. -/
def State.withReply (r : Reply) (s : State) : State := { s with reply := some r }

/-- Outcome `Done(r)`, with the events emitted (R11, R50). -/
def finish (r : Result) (events : List Event) (s : State) : Step :=
  .next (s.withReply { outcome := .done r, events := events })

/-- Outcome `Done(v)` with no event. -/
def answer (v : Word) (s : State) : Step := finish (.value v) [] s

/-! ## Conditions (R200 to R210) -/

/-- The raised-condition slot and auxiliary code filled; "`if c == Generic(ARITH): CR.EXC_SUM <- aux`" (R201). -/
def State.withCondition (c : Condition) (aux : Word) (s : State) : State :=
  { s with
    excCond := some c
    excAux := aux
    excSum := if c = .generic .arith then aux else s.excSum }

/-- `raise C(aux)` (R201, 00_scope.md R10): refused while a condition is raised, else outcome `Fault(C)`. -/
def raise (c : Condition) (aux : Word) (s : State) : Step :=
  match s.excCond with
  | some _ => .refused .conditionAlreadyRaised
  | none => .next ((s.withCondition c aux).withReply { outcome := .fault c, events := [] })

/-- `GENVEC(g)` (R202). -/
def genericVector (c : Config) (g : Generic) : Offset :=
  match g with
  | .opcdec => c.vecOpcdec
  | .arith => c.vecArith
  | .fen => c.vecFen
  | .interrupt => c.vecInterrupt

/-- The vector offset of a condition (R202). -/
def vectorOf (c : Config) (cond : Condition) : Offset :=
  match cond with
  | .generic g => genericVector c g
  | .vectored off => off

/-- `CR.PAL_BASE + zext(off)` (R203). -/
def State.entryPoint (s : State) (off : Offset) : Word := s.palBase + off.setWidth 64

/-- A state with its `pc`, `pal` and `xlate_ctx` replaced, the last being `PAL` exactly when `pal` is set (R26). -/
def State.setMode (pc : Word) (pal : Bool) (s : State) : State :=
  { s with pc := pc, pal := pal, xlateCtx := if pal then .pal else .normal }

/-- `EXC_ADDR <- v`. -/
def State.setExcAddr (v : Word) (s : State) : State := { s with excAddr := v }

/-- The raised-condition slot and the auxiliary code cleared: step 2 of R203. -/
def State.clearCondition (s : State) : State := { s with excCond := none, excAux := 0 }

/-- Step 4 of the transition (R204): the swap, "exactly once" and only from normal mode. -/
def State.swapOnEntry (s : State) : State := if s.sde && !s.pal then s.swapShadow else s

/-- Step 5 of the transition (R205): the link write of a call-class vector; `oldPc` is without the mode bit. -/
def State.linkCall (off : Offset) (oldPc : Word) (s : State) : State :=
  if isCallVec s.cfg off && s.callr then s.writeX s.cfg.callLinkReg oldPc else s

/-- Taking a condition: the seven steps of R203 with the vector offset of step 3 given. Step 6 needs no write (R206). -/
def State.takeCondition (off : Offset) (s : State) : State :=
  ((((s.setExcAddr (s.pc ||| bitWord s.pal)).clearCondition).swapOnEntry).linkCall off s.pc).setMode (s.entryPoint off) true

/-- DISPATCH (R202, R203): refused with nothing raised, else the transition; the result is the new `pc`. -/
def dispatchCondition (s : State) : Step :=
  match s.excCond with
  | none => .refused .nothingRaised
  | some c => answer (s.entryPoint (vectorOf s.cfg c)) (s.takeCondition (vectorOf s.cfg c))

/-- The redirect of R209: `EXC_ADDR` the target, `pc` at the interrupt vector, nothing else changed. -/
def State.redirect (target : Word) (s : State) : State :=
  { s with excAddr := target, pc := s.entryPoint s.cfg.vecInterrupt }

/-- The completed return of R207, R208: swap back when the mode changes, `pc <- t & ~3`, the mode from `t[0]`. -/
def State.returnTo (target : Word) (s : State) : State :=
  (if s.sde && (target.getLsbD 0 != s.pal) then s.swapShadow else s).setMode (target &&& ~~~3#64) (target.getLsbD 0)

/-- PALRET (R207): refused in normal mode; redirected when an interrupt is summarised and the target is not privileged. -/
def returnFromPal (target : Word) (s : State) : Step :=
  if s.pal = false then .refused .notPrivileged
  else if s.isum ≠ 0#64 ∧ target.getLsbD 0 = false then
    answer (s.entryPoint s.cfg.vecInterrupt) (s.redirect target)
  else answer (target &&& ~~~3#64) (s.returnTo target)

/-! ## Diagnosed register writes -/

/-- "additionally emits `diag(reserved_bits, id, value)`" when `value` has bits set outside the stored field (R175). -/
def reservedBits (id : ByteField) (value mask : Word) : List Event :=
  if value &&& ~~~mask = 0#64 then [] else [.diag (.reservedBits id value)]

/-- A write that "changes no state and emits `diag(unmodeled_write, id, value)`" (R153). -/
def ignoreWrite (id : ByteField) (value : Word) (s : State) : Step :=
  finish (.value 0) [.diag (.unmodeledWrite id value)] s

end Sys2Proof.Machine
end

