-- ==== Sys2Proof/Machine/ArithTrap.lean ====
section
/-! DEFINITION. Overflow-checked integer arithmetic: ADDLV, SUBLV, MULLV, ADDQV, SUBQV, MULQV (45_arith_trap.md). -/

namespace Sys2Proof.Machine

/-- "`signed(a[31:0])`": the 32-bit forms use the low halves (R260). -/
def signed32 (a : Word) : Int := (a.setWidth 32).toInt

/-- "On overflow the command performs `raise Generic(ARITH)(ARITH_AUX_IOV)` and returns no result" (R260). -/
def raiseOverflow (s : State) : Step := raise (.generic .arith) s.cfg.arithAuxIov s

/-- A 32-bit form with mathematical result `m`: "result `sext_32(m mod 2^32)`" (R260). -/
def checked32 (m : Int) (s : State) : Step :=
  if inSignedRange 32 m then answer (sext 32 (BitVec.ofInt 64 m)) s else raiseOverflow s

/-- A 64-bit form with mathematical result `m`: "result `m mod 2^64`" (R260). -/
def checked64 (m : Int) (s : State) : Step :=
  if inSignedRange 64 m then answer (BitVec.ofInt 64 m) s else raiseOverflow s

/-- ADDLV (R261). -/
def execAddlv (a b : Word) (s : State) : Step := checked32 (signed32 a + signed32 b) s

/-- SUBLV (R262). -/
def execSublv (a b : Word) (s : State) : Step := checked32 (signed32 a - signed32 b) s

/-- MULLV (R263). -/
def execMullv (a b : Word) (s : State) : Step := checked32 (signed32 a * signed32 b) s

/-- ADDQV (R264). -/
def execAddqv (a b : Word) (s : State) : Step := checked64 (a.toInt + b.toInt) s

/-- SUBQV (R265). -/
def execSubqv (a b : Word) (s : State) : Step := checked64 (a.toInt - b.toInt) s

/-- MULQV (R266). -/
def execMulqv (a b : Word) (s : State) : Step := checked64 (a.toInt * b.toInt) s

end Sys2Proof.Machine
end

