-- ==== Sys2Proof/Machine/Tlb.lean ====
section
/-! DEFINITION. The translation caches and their five commands: TBLKUP, TBINS, TBIA, TBIAP, TBIS (40_tlb.md). -/

namespace Sys2Proof.Machine

/-! ## Predicates over a slot (R100) -/

/-- "`covers(e, va) = e.live && ((e.tag >> page_shift(e)) == (va >> page_shift(e)))`". -/
def Slot.covers (c : Config) (e : Slot) (va : Word) : Bool :=
  e.live && e.tag >>> e.pageShift c == va >>> e.pageShift c

/-- "`asn_ok(e, asn) = e.flags.ASM == 1 || e.asn == asn`". -/
def Slot.asnOk (e : Slot) (asn : Word) : Bool := e.isGlobal || e.asn == asn

/-- "`matches(e, va, asn) = covers(e, va) && asn_ok(e, asn)`". -/
def Slot.hits (c : Config) (e : Slot) (va asn : Word) : Bool := e.covers c va && e.asnOk asn

/-- `e.live <- 0`. -/
def Slot.kill (e : Slot) : Slot := { e with live := false }

/-! ## The operations on one cache -/

/-- The scan of R101 from slot `i` on: "the first match found", ascending. -/
def firstHit (c : Config) (va asn : Word) : Nat → List Slot → Option (Nat × Slot)
  | _, [] => none
  | i, e :: es => if e.hits c va asn then some (i, e) else firstHit c va asn (i + 1) es

/-- `TBLKUP(s, va, asn)` (R101). -/
def Tlb.lookup (c : Config) (t : Tlb) (va asn : Word) : Option (Nat × Slot) := firstHit c va asn 0 t.slots

/-- "The tag is 'page-aligned, sign-extended'": `sext_w(va) & ~((1 << PAGE_SHIFT) - 1)` (R104). -/
def tagOf (c : Config) (w : Nat) (va : Word) : Word := sext w va &&& ~~~(lowMask c.pageShift)

/-- The entry TBINS builds (R104), `w` the stream's canonical width and `asn` the current `CR.ASN`. -/
def newSlot (c : Config) (w : Nat) (va pte asn : Word) : Slot where
  live := true
  tag := tagOf c w va
  ppn := ptePpn c pte
  flags := pteFlags pte
  asn := asn

/-- "`tlb[s].slot[i] <- e; tlb[s].next <- (i + 1) mod TLB_ENTRIES`" with `i = next` (R104). -/
def Tlb.insert (e : Slot) (t : Tlb) : Tlb where
  slots := t.slots.set t.next e
  next := (t.next + 1) % Config.tlbEntries

/-- Flush all (R105). -/
def Tlb.flushAll (t : Tlb) : Tlb := { t with slots := t.slots.map Slot.kill }

/-- Flush the entries that are not global (R106). -/
def Tlb.flushNonGlobal (t : Tlb) : Tlb := { t with slots := t.slots.map fun e => if e.isGlobal then e else e.kill }

/-- Whether a live slot lies inside the page of a slot that covers the operand: the "range of a removed entry" (R75). -/
def Tlb.inCoveredRange (c : Config) (t : Tlb) (va : Word) (e : Slot) : Bool :=
  e.live && t.slots.any fun r => r.covers c va && e.tag >>> r.pageShift c == r.tag >>> r.pageShift c

/-- Whether a page flush removes a slot, whatever its ASN and global flag: it covers the operand (R107), and under the wide
reach also when it lies inside a removed page (R75; log entry 16). -/
def Tlb.removes (c : Config) (t : Tlb) (va : Word) (e : Slot) : Bool :=
  e.covers c va ||
    match c.flushReach with
    | .covering => false
    | .wholeRange => t.inCoveredRange c va e

/-- Flush one page: `live <- 0` in every slot it removes (R107). -/
def Tlb.flushPage (c : Config) (va : Word) (t : Tlb) : Tlb :=
  { t with slots := t.slots.map fun e => if t.removes c va e then e.kill else e }

/-- The events of one removed entry: one `icache_inval_page` per base page it covers, ascending (R107). -/
def pageEvents (c : Config) (e : Slot) : List Event :=
  (List.range (2 ^ e.ghShift c)).map fun k =>
    .icacheInvalPage ((e.tag >>> e.pageShift c) <<< e.pageShift c + BitVec.ofNat 64 k <<< c.pageShift)

/-- The events of a page flush, in ascending slot order (R107): "every entry it removes" (R74). -/
def Tlb.flushPageEvents (c : Config) (va : Word) (t : Tlb) : List Event :=
  t.slots.flatMap fun e => if t.removes c va e then pageEvents c e else []

/-! ## The operations on the state -/

/-- `TBINS(st, va, pte_bits)` (R104). -/
def State.tlbInsert (st : Stream) (va pte : Word) (s : State) : State :=
  s.setTlb st ((s.tlb st).insert (newSlot s.cfg (s.vaWidth st) va pte s.asn))

/-- "`if pte_bits[6:5] == 3: emit diag(reserved_gh, s, pte_bits)`" (R104). -/
def insertEvents (st : Stream) (pte : Word) : List Event :=
  if pteGhReserved pte then [.diag (.reservedGh st pte)] else []

/-- `TBIA(st)` (R105). -/
def State.tlbFlushAll (st : Stream) (s : State) : State := s.setTlb st (s.tlb st).flushAll

/-- `TBIAP(st)` (R106). -/
def State.tlbFlushNonGlobal (st : Stream) (s : State) : State := s.setTlb st (s.tlb st).flushNonGlobal

/-- `TBIS(st, va)` (R107). -/
def State.tlbFlushPage (st : Stream) (va : Word) (s : State) : State := s.setTlb st ((s.tlb st).flushPage s.cfg va)

/-! ## The commands -/

/-- TBLKUP (R101): "`B[ASN_BITS-1:0] = asn`"; no state is written. -/
def execTblkup (st : Stream) (va asn : Word) (s : State) : Step :=
  finish (.lookup ((s.tlb st).lookup s.cfg va (asnOf s.cfg asn))) [] s

/-- TBINS (R104). -/
def execTbins (st : Stream) (va pte : Word) (s : State) : Step :=
  finish (.value 0) (insertEvents st pte) (s.tlbInsert st va pte)

/-- TBIA (R105). -/
def execTbia (st : Stream) (s : State) : Step := answer 0 (s.tlbFlushAll st)

/-- TBIAP (R106). -/
def execTbiap (st : Stream) (s : State) : Step := answer 0 (s.tlbFlushNonGlobal st)

/-- TBIS (R107): `va` is used as given. -/
def execTbis (st : Stream) (va : Word) (s : State) : Step :=
  finish (.value 0) ((s.tlb st).flushPageEvents s.cfg va) (s.tlbFlushPage st va)

end Sys2Proof.Machine
end

