-- ==== Sys2Proof/Machine/Control.lean ====
section
/-! DEFINITION. The control/status register file: RDCTL and WRCTL, one meaning for each row (42_control_registers.md). No mode
check (R176), no condition; every one ends `Done`. -/

namespace Sys2Proof.Machine

/-! ## RDCTL: "A read never changes state and never emits an event" (R150) -/

/-- RDCTL ASN (R154). -/
def execRdctlAsn (s : State) : Step := answer s.asn s

/-- RDCTL CM (R155). -/
def execRdctlCm (s : State) : Step := answer (s.cm.setWidth 64) s

/-- RDCTL IER (R156). -/
def execRdctlIer (s : State) : Step := answer s.ier s

/-- RDCTL IPEND (R157). -/
def execRdctlIpend (s : State) : Step := answer s.ipend s

/-- RDCTL ISUM (R158). -/
def execRdctlIsum (s : State) : Step := answer s.isum s

/-- RDCTL SIRR (R159). -/
def execRdctlSirr (s : State) : Step := answer s.sirr s

/-- RDCTL IVPTB (R160). -/
def execRdctlIvptb (s : State) : Step := answer s.ivptb s

/-- RDCTL DVPTB (R161). -/
def execRdctlDvptb (s : State) : Step := answer s.dvptb s

/-- RDCTL EXC_ADDR (R162). -/
def execRdctlExcAddr (s : State) : Step := answer s.excAddr s

/-- RDCTL EXC_SUM (R163). -/
def execRdctlExcSum (s : State) : Step := answer s.excSum s

/-- RDCTL MM_STAT (R164). -/
def execRdctlMmStat (s : State) : Step := answer (s.mmStat.setWidth 64) s

/-- RDCTL FAULT_VA (R165). -/
def execRdctlFaultVa (s : State) : Step := answer s.faultVa s

/-- RDCTL CPUID (R166). -/
def execRdctlCpuid (s : State) : Step := answer s.cfg.cpuidValue s

/-- RDCTL PAL_BASE (R167). -/
def execRdctlPalBase (s : State) : Step := answer s.palBase s

/-- RDCTL ICTL (R168). -/
def execRdctlIctl (s : State) : Step := answer (s.ictl.setWidth 64) s

/-- RDCTL DCTL (R169). -/
def execRdctlDctl (s : State) : Step := answer (s.dctl.setWidth 64) s

/-- RDCTL ITB_TAG: write-only, reads zero (R152). -/
def execRdctlItbTag (s : State) : Step := answer 0 s

/-- RDCTL ITB_PTE: write-only, reads zero (R152). -/
def execRdctlItbPte (s : State) : Step := answer 0 s

/-- RDCTL ITB_IA: write-only, reads zero (R152). -/
def execRdctlItbIa (s : State) : Step := answer 0 s

/-- RDCTL ITB_IAP: write-only, reads zero (R152). -/
def execRdctlItbIap (s : State) : Step := answer 0 s

/-- RDCTL ITB_IS: write-only, reads zero (R152). -/
def execRdctlItbIs (s : State) : Step := answer 0 s

/-- RDCTL DTB_TAG: write-only, reads zero (R152). -/
def execRdctlDtbTag (s : State) : Step := answer 0 s

/-- RDCTL DTB_PTE: write-only, reads zero (R152). -/
def execRdctlDtbPte (s : State) : Step := answer 0 s

/-- RDCTL DTB_IA: write-only, reads zero (R152). -/
def execRdctlDtbIa (s : State) : Step := answer 0 s

/-- RDCTL DTB_IAP: write-only, reads zero (R152). -/
def execRdctlDtbIap (s : State) : Step := answer 0 s

/-- RDCTL DTB_IS: write-only, reads zero (R152). -/
def execRdctlDtbIs (s : State) : Step := answer 0 s

/-- RDCTL of an unimplemented id: "return zero" (R152). -/
def execRdctlOther (_id : ByteField) (s : State) : Step := answer 0 s

/-! ## Side effects of WRCTL -/

/-- The write of ASN (R154): "`if n != CR.ASN && ASN_WRITE_FLUSHES: TBIA(I); TBIA(D)`", then `CR.ASN <- n`. -/
def State.changeAsn (n : Word) (s : State) : State :=
  { (if n ≠ s.asn ∧ s.cfg.asnWriteFlushes = true then (s.tlbFlushAll .i).tlbFlushAll .d else s) with asn := n }

/-- The write of SIRR (R159): the software field of IPEND is a copy of it. -/
def State.setSirr (n : Word) (s : State) : State :=
  { s with sirr := n, ipend := (s.ipend &&& ~~~s.cfg.swintMask) ||| n }

/-- The write of ICTL (R168): "`if n.SDE != CR.ICTL.SDE && pal == 1: swap_shadow()`", then `CR.ICTL <- n`. -/
def State.changeIctl (n : BitVec 6) (s : State) : State :=
  { (if (n.getLsbD 0 != s.sde) && s.pal then s.swapShadow else s) with ictl := n }

/-! ## WRCTL (R151) -/

/-- WRCTL ASN (R154): both caches flushed when the value changes and `ASN_WRITE_FLUSHES` holds; no `icache_inval_all`. -/
def execWrctlAsn (v : Word) (s : State) : Step :=
  finish (.value 0) (reservedBits 0x00 v (lowMask s.cfg.asnBits)) (s.changeAsn (asnOf s.cfg v))

/-- WRCTL CM (R155). -/
def execWrctlCm (v : Word) (s : State) : Step :=
  finish (.value 0) (reservedBits 0x01 v 3#64) { s with cm := v.setWidth 2 }

/-- WRCTL IER (R156): ISUM and `irq_line` follow, being functions of the state (R31, R47). -/
def execWrctlIer (v : Word) (s : State) : Step :=
  finish (.value 0) (reservedBits 0x02 v (ierMask s.cfg)) { s with ier := v &&& ierMask s.cfg }

/-- WRCTL IPEND: read-only, ignored with `diag` (R157, R153). -/
def execWrctlIpend (v : Word) (s : State) : Step := ignoreWrite 0x03 v s

/-- WRCTL ISUM: read-only, ignored with `diag` (R158, R153). -/
def execWrctlIsum (v : Word) (s : State) : Step := ignoreWrite 0x04 v s

/-- WRCTL SIRR (R159): "`CR.IPEND <- (CR.IPEND & ~SWINT_MASK) | CR.SIRR`". -/
def execWrctlSirr (v : Word) (s : State) : Step :=
  finish (.value 0) (reservedBits 0x05 v s.cfg.swintMask) (s.setSirr (v &&& s.cfg.swintMask))

/-- WRCTL IVPTB: all 64 bits stored (R160). -/
def execWrctlIvptb (v : Word) (s : State) : Step := answer 0 { s with ivptb := v }

/-- WRCTL DVPTB: all 64 bits stored (R161). -/
def execWrctlDvptb (v : Word) (s : State) : Step := answer 0 { s with dvptb := v }

/-- WRCTL EXC_ADDR: all 64 bits stored (R162). -/
def execWrctlExcAddr (v : Word) (s : State) : Step := answer 0 { s with excAddr := v }

/-- WRCTL EXC_SUM: all 64 bits stored (R163). -/
def execWrctlExcSum (v : Word) (s : State) : Step := answer 0 { s with excSum := v }

/-- WRCTL MM_STAT: read-only, ignored with `diag` (R164, R153). -/
def execWrctlMmStat (v : Word) (s : State) : Step := ignoreWrite 0x0A v s

/-- WRCTL FAULT_VA: read-only, ignored with `diag` (R165, R153). -/
def execWrctlFaultVa (v : Word) (s : State) : Step := ignoreWrite 0x0B v s

/-- WRCTL CPUID: read-only, ignored with `diag` (R166, R153). -/
def execWrctlCpuid (v : Word) (s : State) : Step := ignoreWrite 0x0C v s

/-- WRCTL PAL_BASE: all 64 bits stored (R167). -/
def execWrctlPalBase (v : Word) (s : State) : Step := answer 0 { s with palBase := v }

/-- WRCTL ICTL (R168): in privileged mode a change of `SDE` swaps the shadow bank. -/
def execWrctlIctl (v : Word) (s : State) : Step :=
  finish (.value 0) (reservedBits 0x0E v 0x3F#64) (s.changeIctl (v.setWidth 6))

/-- WRCTL DCTL (R169): "`CR.DCTL <- value & 0x3C`". -/
def execWrctlDctl (v : Word) (s : State) : Step :=
  finish (.value 0) (reservedBits 0x0F v 0x3C#64) { s with dctl := v.setWidth 6 &&& 0x3C#6 }

/-- WRCTL ITB_TAG: all 64 bits stored (R170). -/
def execWrctlItbTag (v : Word) (s : State) : Step := answer 0 { s with itbTag := v }

/-- WRCTL ITB_PTE (R174): "`TBINS(I, itb_tag, value)`"; the latch keeps its value. -/
def execWrctlItbPte (v : Word) (s : State) : Step :=
  finish (.value 0) (insertEvents .i v) (s.tlbInsert .i s.itbTag v)

/-- WRCTL ITB_IA (R171): "`TBIA(I)` ... then `emit icache_inval_all`"; the value is ignored. -/
def execWrctlItbIa (_v : Word) (s : State) : Step := finish (.value 0) [.icacheInvalAll] (s.tlbFlushAll .i)

/-- WRCTL ITB_IAP (R172): "`TBIAP(I)` ... then `emit icache_inval_all`"; the value is ignored. -/
def execWrctlItbIap (_v : Word) (s : State) : Step := finish (.value 0) [.icacheInvalAll] (s.tlbFlushNonGlobal .i)

/-- WRCTL ITB_IS (R173): `TBIS(I, value)` and the events of TBIS. -/
def execWrctlItbIs (v : Word) (s : State) : Step :=
  finish (.value 0) ((s.tlb .i).flushPageEvents s.cfg v) (s.tlbFlushPage .i v)

/-- WRCTL DTB_TAG: all 64 bits stored (R170). -/
def execWrctlDtbTag (v : Word) (s : State) : Step := answer 0 { s with dtbTag := v }

/-- WRCTL DTB_PTE (R174): "`TBINS(D, dtb_tag, value)`"; the latch keeps its value. -/
def execWrctlDtbPte (v : Word) (s : State) : Step :=
  finish (.value 0) (insertEvents .d v) (s.tlbInsert .d s.dtbTag v)

/-- WRCTL DTB_IA (R171): "`TBIA(D)` ... then `emit icache_inval_all`"; the value is ignored. -/
def execWrctlDtbIa (_v : Word) (s : State) : Step := finish (.value 0) [.icacheInvalAll] (s.tlbFlushAll .d)

/-- WRCTL DTB_IAP (R172): "`TBIAP(D)` ... then `emit icache_inval_all`"; the value is ignored. -/
def execWrctlDtbIap (_v : Word) (s : State) : Step := finish (.value 0) [.icacheInvalAll] (s.tlbFlushNonGlobal .d)

/-- WRCTL DTB_IS (R173): `TBIS(D, value)` and the events of TBIS. -/
def execWrctlDtbIs (v : Word) (s : State) : Step :=
  finish (.value 0) ((s.tlb .d).flushPageEvents s.cfg v) (s.tlbFlushPage .d v)

/-- WRCTL of an unimplemented id: ignored with `diag` (R153). -/
def execWrctlOther (id : ByteField) (v : Word) (s : State) : Step := ignoreWrite id v s

end Sys2Proof.Machine
end

