-- ==== Sys2Proof/Machine/Dispatcher.lean ====
section
/-! DEFINITION. The exception and interrupt dispatcher's commands: RAISE, DISPATCH, PALRET, IRQ, RS, RC (43_dispatch.md). -/

namespace Sys2Proof.Machine

/-- RAISE.G OPCDEC (R201, R85). -/
def execRaiseGOpcdec (aux : Word) (s : State) : Step := raise (.generic .opcdec) aux s

/-- RAISE.G ARITH (R201, R85): `aux` goes to `CR.EXC_SUM` too. -/
def execRaiseGArith (aux : Word) (s : State) : Step := raise (.generic .arith) aux s

/-- RAISE.G FEN (R201, R85). -/
def execRaiseGFen (aux : Word) (s : State) : Step := raise (.generic .fen) aux s

/-- RAISE.G INTERRUPT (R201, R85). -/
def execRaiseGInterrupt (aux : Word) (s : State) : Step := raise (.generic .interrupt) aux s

/-- RAISE.V (R201): an offset that is no entry of the vector table is accepted. -/
def execRaiseV (off : Offset) (aux : Word) (s : State) : Step := raise (.vectored off) aux s

/-- DISPATCH (R202, R203). -/
def execDispatch (s : State) : Step := dispatchCondition s

/-- PALRET (R207). -/
def execPalret (target : Word) (s : State) : Step := returnFromPal target s

/-- The hardware field of IPEND replaced by the asserted lines: "`CR.IPEND <- (CR.IPEND & ~HWINT_MASK) | (zext(lines) <<
HWINT_SHIFT)`" (R210). -/
def State.deliver (a : Word) (s : State) : State :=
  { s with ipend := (s.ipend &&& ~~~(hwintMask s.cfg)) ||| irqLines s.cfg a }

/-- IRQ (R210): "Accepted in every state". -/
def execIrq (lines : Word) (s : State) : Step := answer 0 (s.deliver lines)

/-- RS (R211): "`r <- intr_flag; intr_flag <- 1`". -/
def execRs (s : State) : Step := answer (bitWord s.intrFlag) { s with intrFlag := true }

/-- RC (R212): "`r <- intr_flag; intr_flag <- 0`". -/
def execRc (s : State) : Step := answer (bitWord s.intrFlag) { s with intrFlag := false }

end Sys2Proof.Machine
end

