-- ==== Sys2Proof/Machine/FloatCodec.lean ====
section
/-! DEFINITION. The floating-format codec: CVTFS, CVTSF, CVTGT, CVTTG, LDS, STS, LDT, STT (44_float_codec.md). Pure functions of
the operand; CVTFS and CVTGT raise the illegal-operation condition on a reserved operand. -/

namespace Sys2Proof.Machine

/-- `DIRTY_ZERO = 0x0010000000000000` (R244). -/
def dirtyZero : Word := 0x0010000000000000#64

/-! ## Format-F register image (R231) -/

/-- "bit 63 `s`". -/
def imageSign (a : Word) : Bool := a.getLsbD 63

/-- "The 8-bit exponent is `e8 = a[62] ## a[58:52]`; bits 61:59 are fill and are ignored on input". -/
def formatFExp (a : Word) : BitVec 8 := a.extractLsb' 62 1 ++ a.extractLsb' 52 7

/-- "bits 51:29 the 23-bit fraction `f`". -/
def formatFFrac (a : Word) : BitVec 23 := a.extractLsb' 29 23

/-- "`expand(e8) = e8[7] ## fill ## e8[6:0]` with `fill = 000` if `e8[7] = 1` or `e8 = 0`, else `111`". -/
def expandExp (e : BitVec 8) : BitVec 11 :=
  e.extractLsb' 7 1 ++ (if e.getLsbD 7 = true ∨ e = 0#8 then 0#3 else 7#3) ++ e.extractLsb' 0 7

/-! ## IEEE single (R232) -/

/-- "bits 30:23 exponent". -/
def singleExp (b : Word32) : BitVec 8 := b.extractLsb' 23 8

/-- "bits 22:0 fraction". -/
def singleFrac (b : Word32) : BitVec 23 := b.extractLsb' 0 23

/-! ## Format-G and T register images (R232) -/

/-- "bits 62:52 the 11-bit exponent `e`". -/
def imageExp (a : Word) : BitVec 11 := a.extractLsb' 52 11

/-- "bits 51:0 the fraction `f`". -/
def imageFrac (a : Word) : BitVec 52 := a.extractLsb' 0 52

/-! ## The conversions -/

/-- The reserved operand of CVTFS: "`e8 == 0 && (s != 0 || f != 0)`" (R233). -/
def reservedF (a : Word) : Bool := formatFExp a == 0#8 && (imageSign a || formatFFrac a != 0#23)

/-- CVTFS on an operand that is not reserved (R233), an IEEE single. -/
def cvtFS (c : Config) (a : Word) : Word32 :=
  if formatFExp a = 0#8 then 0#32
  else if (formatFExp a).toNat < 3 then fUnderflow c (imageSign a) (formatFExp a) (formatFFrac a)
  else BitVec.ofBool (imageSign a) ++ (formatFExp a - 2#8) ++ formatFFrac a

/-- CVTSF (R234). -/
def cvtSF (b : Word32) : Word :=
  if singleExp b = 255#8 then dirtyZero
  else if singleExp b = 0#8 then 0#64
  else if 254 ≤ (singleExp b).toNat then dirtyZero
  else BitVec.ofBool (b.getLsbD 31) ++ expandExp (singleExp b + 2#8) ++ singleFrac b ++ 0#29

/-- The reserved operand of CVTGT: "`e == 0 && (s != 0 || f != 0)`" (R236). -/
def reservedG (a : Word) : Bool := imageExp a == 0#11 && (imageSign a || imageFrac a != 0#52)

/-- CVTGT on an operand that is not reserved (R236). -/
def cvtGT (c : Config) (a : Word) : Word :=
  if imageExp a = 0#11 then 0#64
  else if (imageExp a).toNat < 3 then gUnderflow c (imageSign a) (imageExp a) (imageFrac a)
  else BitVec.ofBool (imageSign a) ++ (imageExp a - 2#11) ++ imageFrac a

/-- CVTTG (R237). -/
def cvtTG (b : Word) : Word :=
  if imageExp b = 2047#11 then dirtyZero
  else if imageExp b = 0#11 then 0#64
  else if 2046 ≤ (imageExp b).toNat then dirtyZero
  else BitVec.ofBool (imageSign b) ++ (imageExp b + 2#11) ++ imageFrac b

/-- LDS (R239): "`if (m & 0x7F800000) != 0x7F800000 && m[30] == 0: r <- r | (0x7 << 59)`". -/
def ldS (m : Word32) : Word :=
  let r := ((m.extractLsb' 30 2).setWidth 64 <<< 62) ||| ((m.extractLsb' 0 30).setWidth 64 <<< 29)
  if m &&& 0x7F800000#32 ≠ 0x7F800000#32 ∧ m.getLsbD 30 = false then r ||| (7#64 <<< 59) else r

/-- STS (R240): "`(r[63:62] << 30) | r[58:29]`". -/
def stS (r : Word) : Word :=
  ((r.extractLsb' 62 2).setWidth 64 <<< 30) ||| (r.extractLsb' 29 30).setWidth 64

/-! ## The commands -/

/-- CVTFS (R233). -/
def execCvtfs (a : Word) (s : State) : Step :=
  if reservedF a then raise (.generic .opcdec) 0 s else answer ((cvtFS s.cfg a).setWidth 64) s

/-- CVTSF (R234): "Never raises". -/
def execCvtsf (b : Word32) (s : State) : Step := answer (cvtSF b) s

/-- CVTGT (R236). -/
def execCvtgt (a : Word) (s : State) : Step :=
  if reservedG a then raise (.generic .opcdec) 0 s else answer (cvtGT s.cfg a) s

/-- CVTTG (R237): "Never raises". -/
def execCvttg (b : Word) (s : State) : Step := answer (cvtTG b) s

/-- LDS (R239): "Never raises". -/
def execLds (m : Word32) (s : State) : Step := answer (ldS m) s

/-- STS (R240): "Never raises". -/
def execSts (r : Word) (s : State) : Step := answer (stS r) s

/-- LDT (R241): "`m` unchanged". -/
def execLdt (m : Word) (s : State) : Step := answer m s

/-- STT (R242): "`r` unchanged". -/
def execStt (r : Word) (s : State) : Step := answer r s

end Sys2Proof.Machine
end

