-- ==== Sys2Proof/Machine/RegPort.lean ====
section
/-! DEFINITION. The register port: RDGPR, WRGPR, RDPC, WRPC (46_regport.md). None raises; none emits events. -/

namespace Sys2Proof.Machine

/-- RDGPR (R280): "`x[n]` as currently visible". -/
def execRdgpr (n : BitVec 5) (s : State) : Step := answer (s.readX n.toNat) s

/-- WRGPR (R281): "`n = 31` is ignored". -/
def execWrgpr (n : BitVec 5) (v : Word) (s : State) : Step := answer 0 (s.writeX n.toNat v)

/-- RDPC (R282). -/
def execRdpc (s : State) : Step := answer s.pc s

/-- WRPC (R283): "`pc <- v`, all 64 bits, no alignment applied, `pal` not changed". -/
def execWrpc (v : Word) (s : State) : Step := answer 0 { s with pc := v }

end Sys2Proof.Machine
end

