-- ==== Sys2Proof/Machine/Translate.lean ====
section
/-! DEFINITION. The address translator and fault classifier: XLATE and MEMX (41_translate.md). -/

namespace Sys2Proof.Machine

/-- "Execute selects stream `I`, Read and Write select `D`" (R122). -/
def streamOf (k : Kind) : Stream :=
  match k with
  | .execute => .i
  | .read | .write => .d

/-- The canonical test at width `w`: "`sext_w(va) == va`" (R60, R122). -/
def canonical (w : Nat) (va : Word) : Bool := sext w va == va

/-- The first enabled matching window, "`k = 2`, then 1, then 0 (largest first)" (R123). -/
def windowHit (s : State) (st : Stream) (va : Word) : Option Nat :=
  [2, 1, 0].find? fun k => s.spe st k && windowMatch s.cfg k va

/-- Step 6 (R127): "`pa = ((e.ppn << PAGE_SHIFT) & ~m) | (va & m)`" with "`m = (1 << page_shift(e)) - 1`". -/
def physicalAddress (c : Config) (e : Slot) (va : Word) : Word :=
  ((e.ppn <<< c.pageShift) &&& ~~~(lowMask (e.pageShift c))) ||| (va &&& lowMask (e.pageShift c))

/-- Steps 3 to 6 on the slot the lookup found (R125, R126, R127), `m` the access mode `CR.CM`. -/
def translateSlot (c : Config) (k : Kind) (m : BitVec 2) (e : Slot) (va : Word) : Translation :=
  if e.valid = false then .err (.miss true)
  else if accessDenied k e m || readFaults k e || writeFaults k e then
    .err (.accessViolation (accessDenied k e m) (readFaults k e) (writeFaults k e))
  else .ok (physicalAddress c e va) (capOf e m)

/-- Steps 3 to 6: the lookup under `CR.ASN`, then its slot (R124). -/
def translateCached (k : Kind) (va : Word) (s : State) : Translation :=
  match (s.tlb (streamOf k)).lookup s.cfg va s.asn with
  | none => .err (.miss false)
  | some (_, e) => translateSlot s.cfg k s.cm e va

/-- Steps 1 to 6 in the normal context (R120, R122, R123). -/
def translateVirtual (k : Kind) (va : Word) (s : State) : Translation :=
  if canonical (s.vaWidth (streamOf k)) va = false then .err .badVirtualAddress
  else
    match windowHit s (streamOf k) va with
    | some w => if s.cm ≠ 0#2 then .err (.accessViolation true false false) else .ok (windowPa s.cfg w va) ⟨true, true, true⟩
    | none => translateCached k va s

/-- XLATE as a pure function (R120): an Execute address in the privileged context is physical (R121), every other translates
by the six steps. -/
def xlateOf (k : Kind) (va : Word) (s : State) : Translation :=
  if k = .execute ∧ s.xlateCtx = .pal then .ok (va &&& lowMask s.cfg.paBits) ⟨false, false, true⟩
  else translateVirtual k va s

/-- The vector of a failed instruction-stream translation (R130, R132). -/
def instructionVector (c : Config) (r : FaultReason) : Offset :=
  match r with
  | .miss _ => c.vecItbMiss
  | .badVirtualAddress | .accessViolation _ _ _ => c.vecIacv

/-- The vector of a failed data-stream translation (R130, R132). -/
def dataVector (c : Config) (r : FaultReason) : Offset :=
  match r with
  | .miss false => c.vecDtbmSingle
  | .miss true => c.vecDtbmDouble
  | .badVirtualAddress | .accessViolation _ _ _ => c.vecDfault

/-- The diagnostics of a data-stream fault, written before the raise (R133). -/
def State.recordDataFault (k : Kind) (r : FaultReason) (va : Word) (insn : Word32) (s : State) : State :=
  { s with faultVa := va, mmStat := mmstat k r insn, excSum := excSumOf insn }

/-- A failed data-stream MEMX: refused without the instruction word (R131), else recorded and raised (R130). -/
def dataFault (k : Kind) (r : FaultReason) (va : Word) (insn : Option Word32) (s : State) : Step :=
  match insn with
  | none => .refused .noCodeBlockContext
  | some w => raise (.vectored (dataVector s.cfg r)) 0 (s.recordDataFault k r va w)

/-- The classifier of R130 on a failed translation. -/
def classifyFault (k : Kind) (r : FaultReason) (va : Word) (insn : Option Word32) (s : State) : Step :=
  match k with
  | .execute => raise (.vectored (instructionVector s.cfg r)) 0 s
  | .read => dataFault .read r va insn s
  | .write => dataFault .write r va insn s

/-- XLATE (R120): no side effects. -/
def execXlate (k : Kind) (va : Word) (s : State) : Step := finish (.translation (xlateOf k va s)) [] s

/-- MEMX (R130). -/
def execMemx (k : Kind) (va : Word) (insn : Option Word32) (s : State) : Step :=
  match xlateOf k va s with
  | .ok pa cap => finish (.translation (.ok pa cap)) [] s
  | .err r => classifyFault k r va insn s

end Sys2Proof.Machine
end

