-- ==== Sys2Proof/Machine/Dispatch.lean ====
section
/-! DEFINITION. One arm for each row of spec/opcode_table.json: the meaning of every command. -/

namespace Sys2Proof.Machine

/-- The meaning of a command in a state. -/
def exec (i : Instr) (s : State) : Host.Outcome State Fault Refusal :=
  match i with
  | .tblkup st va asn => Sys2Proof.Machine.execTblkup st va asn s
  | .tbins st va pte => Sys2Proof.Machine.execTbins st va pte s
  | .tbia st => Sys2Proof.Machine.execTbia st s
  | .tbiap st => Sys2Proof.Machine.execTbiap st s
  | .tbis st va => Sys2Proof.Machine.execTbis st va s
  | .xlate k va => Sys2Proof.Machine.execXlate k va s
  | .memx k va insn => Sys2Proof.Machine.execMemx k va insn s
  | .rdctlAsn => Sys2Proof.Machine.execRdctlAsn s
  | .rdctlCm => Sys2Proof.Machine.execRdctlCm s
  | .rdctlIer => Sys2Proof.Machine.execRdctlIer s
  | .rdctlIpend => Sys2Proof.Machine.execRdctlIpend s
  | .rdctlIsum => Sys2Proof.Machine.execRdctlIsum s
  | .rdctlSirr => Sys2Proof.Machine.execRdctlSirr s
  | .rdctlIvptb => Sys2Proof.Machine.execRdctlIvptb s
  | .rdctlDvptb => Sys2Proof.Machine.execRdctlDvptb s
  | .rdctlExcAddr => Sys2Proof.Machine.execRdctlExcAddr s
  | .rdctlExcSum => Sys2Proof.Machine.execRdctlExcSum s
  | .rdctlMmStat => Sys2Proof.Machine.execRdctlMmStat s
  | .rdctlFaultVa => Sys2Proof.Machine.execRdctlFaultVa s
  | .rdctlCpuid => Sys2Proof.Machine.execRdctlCpuid s
  | .rdctlPalBase => Sys2Proof.Machine.execRdctlPalBase s
  | .rdctlIctl => Sys2Proof.Machine.execRdctlIctl s
  | .rdctlDctl => Sys2Proof.Machine.execRdctlDctl s
  | .rdctlItbTag => Sys2Proof.Machine.execRdctlItbTag s
  | .rdctlItbPte => Sys2Proof.Machine.execRdctlItbPte s
  | .rdctlItbIa => Sys2Proof.Machine.execRdctlItbIa s
  | .rdctlItbIap => Sys2Proof.Machine.execRdctlItbIap s
  | .rdctlItbIs => Sys2Proof.Machine.execRdctlItbIs s
  | .rdctlDtbTag => Sys2Proof.Machine.execRdctlDtbTag s
  | .rdctlDtbPte => Sys2Proof.Machine.execRdctlDtbPte s
  | .rdctlDtbIa => Sys2Proof.Machine.execRdctlDtbIa s
  | .rdctlDtbIap => Sys2Proof.Machine.execRdctlDtbIap s
  | .rdctlDtbIs => Sys2Proof.Machine.execRdctlDtbIs s
  | .rdctlOther id => Sys2Proof.Machine.execRdctlOther id s
  | .wrctlAsn v => Sys2Proof.Machine.execWrctlAsn v s
  | .wrctlCm v => Sys2Proof.Machine.execWrctlCm v s
  | .wrctlIer v => Sys2Proof.Machine.execWrctlIer v s
  | .wrctlIpend v => Sys2Proof.Machine.execWrctlIpend v s
  | .wrctlIsum v => Sys2Proof.Machine.execWrctlIsum v s
  | .wrctlSirr v => Sys2Proof.Machine.execWrctlSirr v s
  | .wrctlIvptb v => Sys2Proof.Machine.execWrctlIvptb v s
  | .wrctlDvptb v => Sys2Proof.Machine.execWrctlDvptb v s
  | .wrctlExcAddr v => Sys2Proof.Machine.execWrctlExcAddr v s
  | .wrctlExcSum v => Sys2Proof.Machine.execWrctlExcSum v s
  | .wrctlMmStat v => Sys2Proof.Machine.execWrctlMmStat v s
  | .wrctlFaultVa v => Sys2Proof.Machine.execWrctlFaultVa v s
  | .wrctlCpuid v => Sys2Proof.Machine.execWrctlCpuid v s
  | .wrctlPalBase v => Sys2Proof.Machine.execWrctlPalBase v s
  | .wrctlIctl v => Sys2Proof.Machine.execWrctlIctl v s
  | .wrctlDctl v => Sys2Proof.Machine.execWrctlDctl v s
  | .wrctlItbTag v => Sys2Proof.Machine.execWrctlItbTag v s
  | .wrctlItbPte v => Sys2Proof.Machine.execWrctlItbPte v s
  | .wrctlItbIa v => Sys2Proof.Machine.execWrctlItbIa v s
  | .wrctlItbIap v => Sys2Proof.Machine.execWrctlItbIap v s
  | .wrctlItbIs v => Sys2Proof.Machine.execWrctlItbIs v s
  | .wrctlDtbTag v => Sys2Proof.Machine.execWrctlDtbTag v s
  | .wrctlDtbPte v => Sys2Proof.Machine.execWrctlDtbPte v s
  | .wrctlDtbIa v => Sys2Proof.Machine.execWrctlDtbIa v s
  | .wrctlDtbIap v => Sys2Proof.Machine.execWrctlDtbIap v s
  | .wrctlDtbIs v => Sys2Proof.Machine.execWrctlDtbIs v s
  | .wrctlOther id v => Sys2Proof.Machine.execWrctlOther id v s
  | .raiseGOpcdec aux => Sys2Proof.Machine.execRaiseGOpcdec aux s
  | .raiseGArith aux => Sys2Proof.Machine.execRaiseGArith aux s
  | .raiseGFen aux => Sys2Proof.Machine.execRaiseGFen aux s
  | .raiseGInterrupt aux => Sys2Proof.Machine.execRaiseGInterrupt aux s
  | .raiseV off aux => Sys2Proof.Machine.execRaiseV off aux s
  | .dispatch => Sys2Proof.Machine.execDispatch s
  | .palret target => Sys2Proof.Machine.execPalret target s
  | .irq lines => Sys2Proof.Machine.execIrq lines s
  | .rs => Sys2Proof.Machine.execRs s
  | .rc => Sys2Proof.Machine.execRc s
  | .cvtfs a => Sys2Proof.Machine.execCvtfs a s
  | .cvtsf b => Sys2Proof.Machine.execCvtsf b s
  | .cvtgt a => Sys2Proof.Machine.execCvtgt a s
  | .cvttg b => Sys2Proof.Machine.execCvttg b s
  | .lds m => Sys2Proof.Machine.execLds m s
  | .sts r => Sys2Proof.Machine.execSts r s
  | .ldt m => Sys2Proof.Machine.execLdt m s
  | .stt r => Sys2Proof.Machine.execStt r s
  | .addlv a b => Sys2Proof.Machine.execAddlv a b s
  | .sublv a b => Sys2Proof.Machine.execSublv a b s
  | .mullv a b => Sys2Proof.Machine.execMullv a b s
  | .addqv a b => Sys2Proof.Machine.execAddqv a b s
  | .subqv a b => Sys2Proof.Machine.execSubqv a b s
  | .mulqv a b => Sys2Proof.Machine.execMulqv a b s
  | .rdgpr n => Sys2Proof.Machine.execRdgpr n s
  | .wrgpr n v => Sys2Proof.Machine.execWrgpr n v s
  | .rdpc => Sys2Proof.Machine.execRdpc s
  | .wrpc v => Sys2Proof.Machine.execWrpc v s

end Sys2Proof.Machine
end

