-- ==== Sys2Proof/Machine/Fetch.lean ====
section
/-! DEFINITION. Where a step gets its work: the oldest input (20_memory.md R70), and what the reset input does
(70_reset_and_hazards.md R330). -/

namespace Sys2Proof.Machine

/-- A state with what waits at the port replaced. -/
def State.setInputs (l : List Input) (s : State) : State := { s with inputs := l }

/-- The oldest waiting input, and the state in which it has been taken. -/
def takeInput (s : State) : Option (Input × State) :=
  match s.inputs with
  | [] => none
  | input :: rest => some (input, s.setInputs rest)

/-- `n` free values from the `k`-th on (log entry 5). -/
def freeWords (n k : Nat) : List Word := (List.range n).map fun j => Config.unspecified (k + j)

/-- A dead slot whose other fields are free values from the `k`-th on: "other slot fields unspecified" (R330). -/
def freeSlot (c : Config) (k : Nat) : Slot where
  live := false
  tag := Config.unspecified k
  ppn := Config.unspecified (k + 1) &&& lowMask (c.paBits - c.pageShift)
  flags := (Config.unspecified (k + 2)).setWidth 16
  asn := asnOf c (Config.unspecified (k + 3))

/-- A cache after the reset input: every slot dead, `next = 0` (R330). -/
def freeTlb (c : Config) (k : Nat) : Tlb where
  slots := (List.range Config.tlbEntries).map fun j => freeSlot c (k + 4 * j)
  next := 0

/-- How many free values one reset hands out: the registers and both caches. -/
def resetDraws (c : Config) : Nat := c.ngpr + c.nfpr + 8 + 2 * (4 * Config.tlbEntries)

/-- The reset input (R330): every piece of state at its reset value, what R330 leaves "unspecified" a free value; the
configuration and what still waits at the port are the outside's and stay (log entries 5, 9). -/
def resetInput (s : State) : State :=
  { State.resetWith s.cfg with
    x := freeWords s.cfg.ngpr s.draws
    f := freeWords s.cfg.nfpr (s.draws + s.cfg.ngpr)
    sh := freeWords 8 (s.draws + s.cfg.ngpr + s.cfg.nfpr)
    itb := freeTlb s.cfg (s.draws + s.cfg.ngpr + s.cfg.nfpr + 8)
    dtb := freeTlb s.cfg (s.draws + s.cfg.ngpr + s.cfg.nfpr + 8 + 4 * Config.tlbEntries)
    inputs := s.inputs
    draws := s.draws + resetDraws s.cfg }

end Sys2Proof.Machine
end

