-- ==== Sys2Proof/Machine/Step.lean ====
section
/-! DEFINITION. One step of the machine: the oldest input is taken and run to completion (00_scope.md R6; 20_memory.md R67,
R70). -/

namespace Sys2Proof.Machine

/-- One step. Nothing waiting: nothing happens (log entry 9). The reset input: R330. A command: decoded (30_encoding.md) and
executed, or `Refuse(IllegalCommand)` (R86). -/
def step (s : State) : Host.Outcome State Fault Refusal :=
  match takeInput s with
  | none => .next s
  | some (.reset, t) => .next (resetInput t)
  | some (.command c, t) =>
    match decode c with
    | .instr i => exec i t
    | .illegal why => .refused (.illegalCommand why)

/-- The state with the command of an opcode-table word waiting first at the port (log entries 10, 11). -/
def State.withFetchWord (s : State) (nbits w : Nat) : State :=
  s.setInputs (.command (Command.ofTableWord nbits w) :: s.inputs)

end Sys2Proof.Machine
end

