-- ==== Sys2Proof/Machine/Pseudo.lean ====
section
/-! DEFINITION. The pseudo-commands of 30_encoding.md R90: sequences of commands, and the two an engine issues depending on
the block's answer. None has a word of its own. -/

namespace Sys2Proof.Machine

/-- Commands one after the other, stopping at the first that is refused (20_memory.md R70). -/
def execAll : List Instr → State → Step
  | [], s => .next s
  | i :: is, s =>
    match exec i s with
    | .next t => execAll is t
    | .fault r => .fault r
    | .refused r => .refused r

/-- `TBIA.ALL` = `WRCTL ITB_IA, 0; WRCTL DTB_IA, 0`. -/
def tbiaAll : List Instr := [.wrctlItbIa 0, .wrctlDtbIa 0]

/-- `ITBFILL va, pte` = `WRCTL ITB_TAG, va; WRCTL ITB_PTE, pte`. -/
def itbFill (va pte : Word) : List Instr := [.wrctlItbTag va, .wrctlItbPte pte]

/-- `DTBFILL va, pte` = `WRCTL DTB_TAG, va; WRCTL DTB_PTE, pte`. -/
def dtbFill (va pte : Word) : List Instr := [.wrctlDtbTag va, .wrctlDtbPte pte]

/-- RAISE of a generic condition (R85). -/
def raiseGeneric (g : Generic) (aux : Word) : Instr :=
  match g with
  | .opcdec => .raiseGOpcdec aux
  | .arith => .raiseGArith aux
  | .fen => .raiseGFen aux
  | .interrupt => .raiseGInterrupt aux

/-- `TRAP.G c, aux` = `RAISE.G c, aux; DISPATCH`. -/
def trapGeneric (g : Generic) (aux : Word) : List Instr := [raiseGeneric g aux, .dispatch]

/-- `TRAP.V off, aux` = `RAISE.V off, aux; DISPATCH`. -/
def trapVectored (off : Offset) (aux : Word) : List Instr := [.raiseV off aux, .dispatch]

/-- Whether the last command's outcome was `Fault` (R11). -/
def State.lastFaulted (s : State) : Bool :=
  match s.reply with
  | some ⟨.fault _, _⟩ => true
  | some ⟨.done _, _⟩ => false
  | none => false

/-- `ACCESS.k va, insn` = "`MEMX.k va, insn`, and, if its outcome is `Fault`, `DISPATCH`". -/
def access (k : Kind) (va : Word) (insn : Option Word32) (s : State) : Step :=
  match exec (.memx k va insn) s with
  | .next t => if t.lastFaulted then exec .dispatch t else .next t
  | .fault r => .fault r
  | .refused r => .refused r

/-- `TAKEIRQ` = `RAISE.G INTERRUPT, 0; DISPATCH`, "issued by the engine only when `irq_line = 1`". -/
def takeIrq (s : State) : Step := if s.irqLine then execAll (trapGeneric .interrupt 0) s else .next s

end Sys2Proof.Machine
end

