-- ==== Sys2Proof/Safety.lean ====
section
/-! DEFINITION. What counts as a sound state and a safe run: the invariant of the state (widths and couplings the rules of
10_state.md give it), the engine's contract, under which no command is refused (30_encoding.md R88; 70_reset_and_hazards.md
R333), and the views of the state that statements about banks and modes use. -/

namespace Sys2Proof.Machine

/-! ## The invariant -/

/-- A slot's fields are as wide as R41 says: `ppn` has `PA_BITS - PAGE_SHIFT` bits, `asn` has `ASN_BITS` bits. -/
structure SlotWidths (c : Config) (e : Slot) : Prop where
  ppn : e.ppn &&& ~~~(lowMask (c.paBits - c.pageShift)) = 0#64
  asn : e.asn &&& ~~~(lowMask c.asnBits) = 0#64

/-- What an insert leaves in a live slot (R42, R104): reserved flag bits 3 and 7 zero, the tag page-aligned. -/
structure SlotShape (c : Config) (e : Slot) : Prop where
  flags : e.flags &&& 0x0088#16 = 0#16
  tag : e.tag &&& lowMask c.pageShift = 0#64

/-- A translation cache (R41): 128 slots, `next` one of their indices, every slot of its widths, every live one of its
shape. -/
structure TlbInv (c : Config) (t : Tlb) : Prop where
  size : t.slots.length = Config.tlbEntries
  next : t.next < Config.tlbEntries
  widths : ∀ e ∈ t.slots, SlotWidths c e
  shape : ∀ e ∈ t.slots, e.live = true → SlotShape c e

/-- The invariant of the state. -/
structure State.Inv (s : State) : Prop where
  /-- U27 and the widths of the rules. -/
  cfg : s.cfg.wf = true
  /-- R20, R22, R23: the register files have their sizes. -/
  x : s.x.length = s.cfg.ngpr
  f : s.f.length = s.cfg.nfpr
  sh : s.sh.length = 8
  /-- R26: "`xlate_ctx = PAL` iff `pal = 1`". -/
  ctx : s.xlateCtx = .pal ↔ s.pal = true
  /-- R27: ASN has `ASN_BITS` bits. -/
  asn : s.asn &&& ~~~(lowMask s.cfg.asnBits) = 0#64
  /-- R29: IER holds only bits of `IER_MASK`. -/
  ier : s.ier &&& ~~~(ierMask s.cfg) = 0#64
  /-- R32: SIRR holds only bits of `SWINT_MASK`. -/
  sirr : s.sirr &&& ~~~s.cfg.swintMask = 0#64
  /-- R30: "All other bits are always zero". -/
  ipend : s.ipend &&& ~~~(ierMask s.cfg) = 0#64
  /-- R159: "The software field of IPEND is a copy of SIRR". -/
  software : s.ipend &&& s.cfg.swintMask = s.sirr
  /-- R40: bits 0 and 1 of DCTL are reserved, "read as zero". -/
  dctl : s.dctl &&& 3#6 = 0#6
  /-- R41 of both caches. -/
  itb : TlbInv s.cfg s.itb
  dtb : TlbInv s.cfg s.dtb

/-! ## The engine's contract -/

/-- What the engine must keep for a command not to be refused, each clause a precondition a rule names (R88): the slot free for
a command that raises (R201), occupied for DISPATCH (R202), privileged mode for PALRET (R207), the instruction word for a
data-stream MEMX that fails (R131). -/
def Contract (i : Instr) (s : State) : Prop :=
  match i with
  | .dispatch => s.excCond ≠ none
  | .palret _ => s.pal = true
  | .raiseGOpcdec _ | .raiseGArith _ | .raiseGFen _ | .raiseGInterrupt _ | .raiseV _ _ => s.excCond = none
  | .memx k va insn =>
    ∀ r, xlateOf k va s = .err r → s.excCond = none ∧ (k = .execute ∨ insn ≠ none)
  | .cvtfs a => reservedF a = true → s.excCond = none
  | .cvtgt a => reservedG a = true → s.excCond = none
  | .addlv a b => inSignedRange 32 (signed32 a + signed32 b) = false → s.excCond = none
  | .sublv a b => inSignedRange 32 (signed32 a - signed32 b) = false → s.excCond = none
  | .mullv a b => inSignedRange 32 (signed32 a * signed32 b) = false → s.excCond = none
  | .addqv a b => inSignedRange 64 (a.toInt + b.toInt) = false → s.excCond = none
  | .subqv a b => inSignedRange 64 (a.toInt - b.toInt) = false → s.excCond = none
  | .mulqv a b => inSignedRange 64 (a.toInt * b.toInt) = false → s.excCond = none
  | .tblkup _ _ _ | .tbins _ _ _ | .tbia _ | .tbiap _ | .tbis _ _ | .xlate _ _ | .rdctlAsn | .rdctlCm | .rdctlIer
  | .rdctlIpend | .rdctlIsum | .rdctlSirr | .rdctlIvptb | .rdctlDvptb | .rdctlExcAddr | .rdctlExcSum | .rdctlMmStat
  | .rdctlFaultVa | .rdctlCpuid | .rdctlPalBase | .rdctlIctl | .rdctlDctl | .rdctlItbTag | .rdctlItbPte | .rdctlItbIa
  | .rdctlItbIap | .rdctlItbIs | .rdctlDtbTag | .rdctlDtbPte | .rdctlDtbIa | .rdctlDtbIap | .rdctlDtbIs
  | .rdctlOther _ | .wrctlAsn _ | .wrctlCm _ | .wrctlIer _ | .wrctlIpend _ | .wrctlIsum _ | .wrctlSirr _
  | .wrctlIvptb _ | .wrctlDvptb _ | .wrctlExcAddr _ | .wrctlExcSum _ | .wrctlMmStat _ | .wrctlFaultVa _
  | .wrctlCpuid _ | .wrctlPalBase _ | .wrctlIctl _ | .wrctlDctl _ | .wrctlItbTag _ | .wrctlItbPte _ | .wrctlItbIa _
  | .wrctlItbIap _ | .wrctlItbIs _ | .wrctlDtbTag _ | .wrctlDtbPte _ | .wrctlDtbIa _ | .wrctlDtbIap _ | .wrctlDtbIs _
  | .wrctlOther _ _ | .irq _ | .rs | .rc | .cvtsf _ | .cvttg _ | .lds _ | .sts _ | .ldt _ | .stt _ | .rdgpr _
  | .wrgpr _ _ | .rdpc | .wrpc _ => True

/-- A safe run of a list of commands: none of them is refused and none stops. -/
def SafeRun (is : List Instr) (s : State) : Prop := ∃ t, execAll is s = .next t

/-! ## Views of the state -/

/-- Whether the shadow bank is in `x[]`: "iff `pal == 1 && SDE == 1`" (R168, R208). -/
def State.shadowIn (s : State) : Bool := s.pal && s.sde

/-- The normal-mode value of the `j`-th shadowed register: in `sh[j]` while the shadow bank is in, else in `x[]`. -/
def State.normalBank (s : State) (j : Nat) : Word :=
  if s.shadowIn then s.sh.getD j 0#64 else s.readX (s.cfg.shadowSet.getD j 0)

/-- The privileged-mode value of the `j`-th shadowed register. -/
def State.shadowBank (s : State) (j : Nat) : Word :=
  if s.shadowIn then s.readX (s.cfg.shadowSet.getD j 0) else s.sh.getD j 0#64

end Sys2Proof.Machine
end

