-- ==== Sys2Proof/Certificates/Slice0/Obligations.lean ====
section
/-! DEFINITION. The statements for the provers. Each `def Obligations.<Name> : Prop` formalises rules of spec/ (cited in its
docstring and in OBLIGATIONS.json). A conjunct `OpensAs w f` says which command word runs the command the statement is about
(30_encoding.md R81, R84). An equation `{ t with a := s.a, … } = s` is a frame: `t` differs from `s` in the listed fields at
most. -/

open Sys2Proof Sys2Proof.Machine

namespace Sys2Proof.Claims

/-! ## Words the statements share -/

/-- The command word `w` is the command `f A B`, whatever the operand ports hold (R80, R81). -/
def OpensAs (w : Word32) (f : Word → Word → Instr) : Prop :=
  ∀ a b insn valid, decode ⟨w, a, b, insn, valid⟩ = .instr (f a b)

/-- The command `i` ends `Done(r)` with the events `ev` in the state `t`, whose own reply field does not matter (R11, R80). -/
def Ends (i : Instr) (s : State) (r : Result) (ev : List Event) (t : State) : Prop :=
  exec i s = .next { t with reply := some ⟨.done r, ev⟩ }

/-- The slots of a cache that answer a lookup: live, same page at the slot's own page size, and global or of the asked ASN
(R100), spelled out on the slot's fields. -/
def Answers (c : Config) (e : Slot) (va asn : Word) : Prop :=
  e.live = true ∧ e.tag >>> e.pageShift c = va >>> e.pageShift c ∧ (e.flags.getLsbD 4 = true ∨ e.asn = asn)

/-- A live slot whose page holds an address (R100's `covers`), spelled out on the slot's fields. -/
abbrev Holds (c : Config) (e : Slot) (va : Word) : Prop :=
  e.live = true ∧ e.tag >>> e.pageShift c = va >>> e.pageShift c

/-- The slots TBIS removes: those whose page holds the operand, and under the wide reach the live ones inside the page of one of
those (log entry 16). -/
abbrev Removed (c : Config) (t : Tlb) (va : Word) (e : Slot) : Prop :=
  Holds c e va ∨ c.flushReach = .wholeRange ∧ e.live = true ∧
    ∃ r ∈ t.slots, Holds c r va ∧ e.tag >>> r.pageShift c = r.tag >>> r.pageShift c

/-- Slot `i` of a cache, `e`, is the first that answers (R101). -/
def FirstAnswer (c : Config) (t : Tlb) (va asn : Word) (i : Nat) (e : Slot) : Prop :=
  t.slots[i]? = some e ∧ Answers c e va asn ∧ ∀ j < i, ∀ a, t.slots[j]? = some a → ¬Answers c a va asn

/-- The bits `63:w-1` of an address are all equal (R60). -/
def HighBitsEqual (w : Nat) (va : Word) : Prop := ∀ i, w - 1 ≤ i → i < 64 → va.getLsbD i = va.getLsbD 63

/-- A translation that is not a physical fetch and whose address passes the canonical test (R121, R122). -/
def PassesCanonicalTest (k : Kind) (va : Word) (s : State) : Prop :=
  ¬(k = .execute ∧ s.xlateCtx = .pal) ∧ HighBitsEqual (s.vaWidth (streamOf k)) va

/-- Window `n` is enabled for the access's stream and matches (R123). -/
def WindowApplies (k : Kind) (va : Word) (s : State) (n : Nat) : Prop :=
  s.spe (streamOf k) n = true ∧ windowMatch s.cfg n va = true

/-- A translation that gets as far as the lookup: no enabled window matches (R123, R124). -/
def ReachesLookup (k : Kind) (va : Word) (s : State) : Prop :=
  PassesCanonicalTest k va s ∧ ∀ n < 3, ¬WindowApplies k va s n

/-- XLATE answers `r`, changes nothing and emits nothing (R120). -/
def XlateAnswers (k : Kind) (va : Word) (s : State) (r : Translation) : Prop :=
  Ends (.xlate k va) s (.translation r) [] s

/-- The read enable of mode `m`, bits 11:8 in mode order (R42). -/
def ReadEnabled (e : Slot) (m : BitVec 2) : Prop := e.flags.getLsbD (8 + m.toNat) = true

/-- The write enable of mode `m`, bits 15:12 in mode order (R42). -/
def WriteEnabled (e : Slot) (m : BitVec 2) : Prop := e.flags.getLsbD (12 + m.toNat) = true

/-- Denied by the mode's enable: Execute tests the read enable (R126). -/
def EnableClear (k : Kind) (e : Slot) (m : BitVec 2) : Prop :=
  match k with
  | .read => ¬ReadEnabled e m
  | .write => ¬WriteEnabled e m
  | .execute => ¬ReadEnabled e m

/-- The state after a command that raised `c` with `aux`, from the state `t` it would otherwise have left (R201). -/
def Raised (c : Condition) (aux : Word) (t : State) : State :=
  { t with
    excCond := some c
    excAux := aux
    excSum := if c = .generic .arith then aux else t.excSum
    reply := some ⟨.fault c, []⟩ }

/-- The six overflow-checked forms (R260). -/
def IsChecked (i : Instr) : Prop :=
  ∃ a b, i = .addlv a b ∨ i = .sublv a b ∨ i = .mullv a b ∨ i = .addqv a b ∨ i = .subqv a b ∨ i = .mulqv a b

/-- The commands that perform RAISE or the `raise` primitive (R201): RAISE itself, MEMX, CVTFS, CVTGT, the six checked forms. -/
def IsRaiser (i : Instr) : Prop :=
  (∃ aux, i = .raiseGOpcdec aux ∨ i = .raiseGArith aux ∨ i = .raiseGFen aux ∨ i = .raiseGInterrupt aux ∨
      ∃ off, i = .raiseV off aux) ∨
    (∃ k va insn, i = .memx k va insn) ∨ (∃ a, i = .cvtfs a ∨ i = .cvtgt a) ∨ IsChecked i

/-- The commands that may perform `swap_shadow` (R23): DISPATCH, PALRET, WRCTL ICTL. -/
def IsSwapper (i : Instr) : Prop := i = .dispatch ∨ (∃ target, i = .palret target) ∨ ∃ v, i = .wrctlIctl v

end Sys2Proof.Claims

open Sys2Proof.Claims

/-! ## Commands and steps -/

/-- R6, R67, R70: a step takes the oldest input and runs its command to completion. -/
def Obligations.StepRunsTheOldestCommand : Prop :=
  ∀ (s : State) (c : Command) (rest : List Input) (i : Instr),
    s.inputs = .command c :: rest → decode c = .instr i → step s = exec i { s with inputs := rest }

/-- R86: which command records are illegal, clause by clause on the number the word denotes, and that a step refuses exactly
those by that name. -/
def Obligations.IllegalCommandsAreExactlyRule86 : Prop :=
  ∀ c : Command,
    let opc := c.w.toNat / 2 ^ 24
    let idx := c.w.toNat / 2 ^ 16 % 256
    let md := c.w.toNat / 2 ^ 8 % 256
    let zeroF := c.w.toNat % 256
    let formatS := 0x01 ≤ opc ∧ opc ≤ 0x05
    let formatK := opc = 0x08 ∨ opc = 0x09
    let formatR := opc = 0x10 ∨ opc = 0x11
    let formatG := opc = 0x18
    let formatN := (0x19 ≤ opc ∧ opc ≤ 0x1D) ∨ (0x20 ≤ opc ∧ opc ≤ 0x2D) ∨ opc = 0x32 ∨ opc = 0x33
    let formatX := opc = 0x30 ∨ opc = 0x31
    let illegal :=
      ¬(formatS ∨ formatK ∨ formatR ∨ formatG ∨ formatN ∨ formatX) ∨ zeroF ≠ 0 ∨
      (formatS ∧ (idx ≠ 0 ∨ md / 2 ≠ 0)) ∨
      (formatK ∧ (idx ≠ 0 ∨ md / 4 ≠ 0 ∨ md % 4 = 3)) ∨
      (formatR ∧ md ≠ 0) ∨
      (formatG ∧ (md / 2 ≠ 0 ∨ (md % 2 = 1 ∧ idx / 4 ≠ 0) ∨ (md % 2 = 0 ∧ (idx ≠ 0 ∨ c.a.toNat / 2 ^ 16 ≠ 0)))) ∨
      (formatN ∧ (idx ≠ 0 ∨ md ≠ 0)) ∨
      (formatX ∧ (idx / 32 ≠ 0 ∨ md ≠ 0))
    ((∃ why, decode c = .illegal why) ↔ illegal) ∧
      ∀ (s : State) (rest : List Input), s.inputs = .command c :: rest →
        ((∃ why, step s = .refused (.illegalCommand why)) ↔ illegal)

/-- R81 to R85, R87: decoding an encoded well-formed command gives it back, with every operand at every value. -/
def Obligations.DecodingAnEncodedCommandGivesItBack : Prop :=
  ∀ i : Instr, WellFormed i = true → decode (encode i) = .instr i

/-- R81 to R87: a word has one meaning: what decodes is well formed, its encoding has the same command word, and the catch-all
rows are only reached by ids that have no row of their own. -/
def Obligations.DecodedCommandsReencodeToTheirWord : Prop :=
  ∀ (c : Command) (i : Instr), decode c = .instr i → WellFormed i = true ∧ (encode i).w = c.w

/-- R91 and the encoding vectors of 95_test_vectors.md: words of the spec decode to the commands the spec says they are. -/
def Obligations.SpecExampleWordsDecode : Prop :=
  (∀ va b insn, decode ⟨0x09000100, va, b, insn, true⟩ = .instr (.memx .write va (some insn))) ∧
    OpensAs 0x110E0000 (fun a _ => .wrctlIctl a) ∧
    OpensAs 0x18030100 (fun _ b => .raiseGInterrupt b) ∧
    OpensAs 0x05000100 (fun a _ => .tbis .d a) ∧
    OpensAs 0x01000000 (fun a b => .tblkup .i a b) ∧
    OpensAs 0x08000200 (fun a _ => .xlate .execute a) ∧
    OpensAs 0x10FF0000 (fun _ _ => .rdctlOther 0xFF) ∧
    OpensAs 0x31170000 (fun a _ => .wrgpr 23 a)

/-- R88, R130, R131, R201, R202, R207: a command that decodes is refused exactly where it breaks the contract its rule names,
and by that rule's name; elsewhere it answers a next state. That a MEMX that breaks R131 and R201 at once is refused by R131's
name is read from the order of R130's pseudocode (log entry 15). -/
def Obligations.CommandsCompleteExactlyUnderTheContract : Prop :=
  ∀ (i : Instr) (s : State),
    (Contract i s → ∃ t, exec i s = .next t) ∧
      (¬Contract i s →
        exec i s = .refused
          (match i with
            | .dispatch => .nothingRaised
            | .palret _ => .notPrivileged
            | .memx .read _ none => .noCodeBlockContext
            | .memx .write _ none => .noCodeBlockContext
            | _ => .conditionAlreadyRaised))

/-! ## Invariants of the state -/

/-- R26, R27, R29, R30, R32, R40, R41, R42, R159: every step keeps the invariant of `Safety.lean`: the register files keep their
sizes, `xlate_ctx` follows `pal`, ASN, IER, SIRR, IPEND and DCTL have no bit outside their fields, the software field of IPEND
is SIRR, and both caches keep 128 slots of their widths, live ones page-aligned and with reserved flag bits zero. -/
def Obligations.EveryStepKeepsTheInvariant : Prop :=
  ∀ s t : State, s.Inv → step s = .next t → t.Inv

/-- R330, R26, R41: the block right after reset meets the invariant, under every configuration that is well formed. -/
def Obligations.ResetMeetsTheInvariant : Prop :=
  State.reset.Inv ∧ ∀ c : Config, c.wf = true → (State.resetWith c).Inv

/-- R330: the values the spec gives for reset. (The registers R330 leaves "unspecified" are not in it: log entries 1 to 4.) -/
def Obligations.ResetLeavesTheSpecifiedValues : Prop :=
  ∀ c : Config,
    let s := State.resetWith c
    s.pc = c.vecReset.setWidth 64 ∧ s.pal = true ∧ s.xlateCtx = .pal ∧ s.asn = 0 ∧ s.cm = 0 ∧ s.ier = 0 ∧ s.ipend = 0 ∧
      s.sirr = 0 ∧ s.ivptb = 0 ∧ s.dvptb = 0 ∧ s.excAddr = 0 ∧ s.excSum = 0 ∧ s.mmStat = 0 ∧ s.faultVa = 0 ∧
      s.palBase = 0 ∧ s.ictl = 0 ∧ s.dctl = 0 ∧ s.isum = 0 ∧ s.cfg.cpuidValue = c.cpuidValue ∧ s.excCond = none ∧
      s.excAux = 0 ∧ s.intrFlag = false ∧ s.itbTag = 0 ∧ s.dtbTag = 0 ∧ s.irqLine = false ∧
      ∀ st, (s.tlb st).slots.length = 128 ∧ (∀ e ∈ (s.tlb st).slots, e.live = false) ∧ (s.tlb st).next = 0

/-- R330, R331: the reset input gives every piece of state the value R330 gives it, from any state; it is no condition. The
model's own choices beside it: the configuration and what waits behind it stay (log entries 5 and 9), and no reply is recorded
(log entry 12). -/
def Obligations.ResetInputGivesTheSpecifiedValues : Prop :=
  ∀ (s : State) (rest : List Input), s.inputs = .reset :: rest →
    ∃ t, step s = .next t ∧ t.cfg = s.cfg ∧ t.inputs = rest ∧ t.reply = none ∧
      t.x.length = s.cfg.ngpr ∧ t.f.length = s.cfg.nfpr ∧ t.sh.length = 8 ∧ t.irqLine = false ∧
      (∀ st, (t.tlb st).slots.length = 128 ∧ (∀ e ∈ (t.tlb st).slots, e.live = false) ∧ (t.tlb st).next = 0) ∧
      { t with x := [], f := [], sh := [], itb := Tlb.empty, dtb := Tlb.empty, inputs := [], draws := 0 } =
        { State.resetWith s.cfg with x := [], f := [], sh := [] }

/-- R22: no command reads or writes a floating register: two states that differ in `f` only give answers that differ in `f`
only. Nor does one change the model's own fields: the parameters (log entry 6), what waits at the port (log entry 9) and the
count of free values (log entry 5). -/
def Obligations.NoCommandTouchesFloatingRegisters : Prop :=
  ∀ (i : Instr) (s t : State) (fs : List Word), exec i s = .next t →
    t.f = s.f ∧ t.cfg = s.cfg ∧ t.inputs = s.inputs ∧ t.draws = s.draws ∧
      exec i { s with f := fs } = .next { t with f := fs }

/-! ## The translation caches -/

/-- R100, R101, R108: TBLKUP answers the first matching slot in ascending order, or `None` exactly when none matches, and
changes nothing. -/
def Obligations.TblkupAnswersTheFirstMatch : Prop :=
  OpensAs 0x01000000 (fun a b => .tblkup .i a b) ∧ OpensAs 0x01000100 (fun a b => .tblkup .d a b) ∧
    ∀ (st : Stream) (va asn : Word) (s : State), ∃ hit,
      Ends (.tblkup st va asn) s (.lookup hit) [] s ∧
        (hit = none ↔ ∀ e ∈ (s.tlb st).slots, ¬Answers s.cfg e va (asn &&& lowMask s.cfg.asnBits)) ∧
        ∀ i e, hit = some (i, e) ↔ FirstAnswer s.cfg (s.tlb st) va (asn &&& lowMask s.cfg.asnBits) i e

/-- R43, R102: an entry that is not global matches a lookup only under its own ASN; a live global entry whose page holds the
address is enough for a hit under every ASN. -/
def Obligations.OnlyGlobalEntriesMatchUnderAnotherAsn : Prop :=
  (∀ (c : Config) (t : Tlb) (va asn : Word) (i : Nat) (e : Slot),
      t.lookup c va asn = some (i, e) → e.flags.getLsbD 4 = false → e.asn = asn) ∧
    ∀ (c : Config) (t : Tlb) (va : Word) (e : Slot), e ∈ t.slots → e.live = true → e.flags.getLsbD 4 = true →
      e.tag >>> e.pageShift c = va >>> e.pageShift c → ∀ asn, t.lookup c va asn ≠ none

/-- R103, R104: TBINS writes the entry into the slot `next`, moves `next` on cyclically, and changes nothing else. -/
def Obligations.TbinsWritesTheNextSlot : Prop :=
  OpensAs 0x02000000 (fun a b => .tbins .i a b) ∧ OpensAs 0x02000100 (fun a b => .tbins .d a b) ∧
    ∀ (st : Stream) (va pte : Word) (s : State), s.Inv →
      ∃ t, exec (.tbins st va pte) s = .next t ∧
        (t.tlb st).slots[(s.tlb st).next]? =
          some
            { live := true
              tag := sext (if (s.streamCtl st).getLsbD 2 = true then 48 else 43) va &&& ~~~(lowMask s.cfg.pageShift)
              ppn := (pte >>> 32) &&& lowMask (s.cfg.paBits - s.cfg.pageShift)
              flags := pte.setWidth 16 &&& 0xFF77#16
              asn := s.asn } ∧
        (∀ i, i ≠ (s.tlb st).next → (t.tlb st).slots[i]? = (s.tlb st).slots[i]?) ∧
        (t.tlb st).next = ((s.tlb st).next + 1) % 128 ∧
        (∀ st', st' ≠ st → t.tlb st' = s.tlb st') ∧
        t.reply = some ⟨.done (.value 0),
          if pte.toNat / 2 ^ 5 % 4 = 3 then [.diag (.reservedGh st pte)] else []⟩ ∧
        { t with itb := s.itb, dtb := s.dtb, reply := s.reply } = s

/-- R101, R104 and the source's property S3 ("inserting ... and looking it up returns a match"): a canonical address that has
just been inserted is found, under the current ASN and, when the entry is global, under every ASN. -/
def Obligations.LookupAfterInsertFindsAnEntry : Prop :=
  ∀ (st : Stream) (va pte asn : Word) (s : State), s.Inv → HighBitsEqual (s.vaWidth st) va →
    (asn = s.asn ∨ pte.getLsbD 4 = true) →
      ∃ t, exec (.tbins st va pte) s = .next t ∧ (t.tlb st).lookup t.cfg va asn ≠ none

/-- R105, R75: TBIA clears `live` of every slot of its stream and nothing else, so that no address hits there. -/
def Obligations.TbiaEmptiesItsStream : Prop :=
  OpensAs 0x03000000 (fun _ _ => .tbia .i) ∧ OpensAs 0x03000100 (fun _ _ => .tbia .d) ∧
    ∀ (st : Stream) (s : State), ∃ t, exec (.tbia st) s = .next t ∧
      (∀ i : Nat, (t.tlb st).slots[i]? = (s.tlb st).slots[i]?.map fun e => { e with live := false }) ∧
      (t.tlb st).next = (s.tlb st).next ∧ (∀ st', st' ≠ st → t.tlb st' = s.tlb st') ∧
      t.reply = some ⟨.done (.value 0), []⟩ ∧ { t with itb := s.itb, dtb := s.dtb, reply := s.reply } = s ∧
      ∀ va asn, (t.tlb st).lookup t.cfg va asn = none

/-- R106, R75: TBIAP clears `live` of exactly the slots whose global flag is clear, of every ASN. -/
def Obligations.TbiapKeepsExactlyGlobalEntries : Prop :=
  OpensAs 0x04000000 (fun _ _ => .tbiap .i) ∧ OpensAs 0x04000100 (fun _ _ => .tbiap .d) ∧
    ∀ (st : Stream) (s : State), ∃ t, exec (.tbiap st) s = .next t ∧
      (∀ i : Nat, (t.tlb st).slots[i]? =
        (s.tlb st).slots[i]?.map fun e => if e.flags.getLsbD 4 = true then e else { e with live := false }) ∧
      (t.tlb st).next = (s.tlb st).next ∧ (∀ st', st' ≠ st → t.tlb st' = s.tlb st') ∧
      t.reply = some ⟨.done (.value 0), []⟩ ∧ { t with itb := s.itb, dtb := s.dtb, reply := s.reply } = s ∧
      ∀ va asn i e, (t.tlb st).lookup t.cfg va asn = some (i, e) → e.flags.getLsbD 4 = true

/-- R107: TBIS removes every live entry whose page holds the address, whatever its ASN and global flag, reports each base page
of each entry it removes in ascending order, and changes nothing else; every address of the operand's own base page then misses
under every ASN. The reach of the flush is a parameter (log entry 16), because R107 and R75 disagree on a smaller entry inside
a removed page: under the one reach no other entry is removed (R107's pseudocode) and every address of a removed page misses
that no such smaller entry holds; under the other the live entries inside a removed page go too and every address of it misses
(R75). -/
def Obligations.TbisRemovesEveryCoveringEntry : Prop :=
  OpensAs 0x05000000 (fun a _ => .tbis .i a) ∧ OpensAs 0x05000100 (fun a _ => .tbis .d a) ∧
    ∀ (st : Stream) (va : Word) (s : State), ∃ t, exec (.tbis st va) s = .next t ∧
      (∀ i : Nat, (t.tlb st).slots[i]? = (s.tlb st).slots[i]?.map fun e =>
        if Removed s.cfg (s.tlb st) va e then { e with live := false } else e) ∧
      (t.tlb st).next = (s.tlb st).next ∧ (∀ st', st' ≠ st → t.tlb st' = s.tlb st') ∧
      t.reply = some ⟨.done (.value 0), ((s.tlb st).slots.filter fun e =>
          decide (Removed s.cfg (s.tlb st) va e)).flatMap fun e =>
            (List.range (2 ^ e.ghShift s.cfg)).map fun k =>
              .icacheInvalPage (e.tag >>> e.pageShift s.cfg <<< e.pageShift s.cfg + BitVec.ofNat 64 k <<< s.cfg.pageShift)⟩ ∧
      { t with itb := s.itb, dtb := s.dtb, reply := s.reply } = s ∧
      (∀ (va' asn : Word), va' >>> s.cfg.pageShift = va >>> s.cfg.pageShift → (t.tlb st).lookup t.cfg va' asn = none) ∧
      ∀ e ∈ (s.tlb st).slots, Holds s.cfg e va → ∀ (va' asn : Word),
        va' >>> e.pageShift s.cfg = e.tag >>> e.pageShift s.cfg →
          (s.cfg.flushReach = .wholeRange ∨
            ∀ a ∈ (s.tlb st).slots, Holds s.cfg a va' → ¬Holds s.cfg a va → e.pageShift s.cfg ≤ a.pageShift s.cfg) →
          (t.tlb st).lookup t.cfg va' asn = none

/-! ## Translation -/

/-- R121: in the privileged context a fetch is physical; Read and Write translate the same in both contexts. -/
def Obligations.PrivilegedFetchIsPhysical : Prop :=
  (∀ (va : Word) (s : State), s.xlateCtx = .pal →
      XlateAnswers .execute va s (.ok (va &&& lowMask s.cfg.paBits) ⟨false, false, true⟩)) ∧
    ∀ (k : Kind) (va : Word) (s : State) (ctx : XlateCtx) (p : Bool) (r : Translation), k ≠ .execute →
      XlateAnswers k va s r → XlateAnswers k va { s with xlateCtx := ctx, pal := p } r

/-- R60, R122, R129: a translation that is not a physical fetch fails with a bad virtual address exactly when the bits 63:w-1
of the address are not all equal, "regardless of cache contents" and of everything else the state holds; `w` is 48 or 43 by
`VA48` of ICTL for Execute and of DCTL for Read and Write. -/
def Obligations.BadVirtualAddressExactlyWhenNotCanonical : Prop :=
  ∀ (k : Kind) (va : Word) (s : State), ¬(k = .execute ∧ s.xlateCtx = .pal) →
    let control := match k with
      | .execute => s.ictl
      | .read => s.dctl
      | .write => s.dctl
    (XlateAnswers k va s (.err .badVirtualAddress) ↔
      ¬HighBitsEqual (if control.getLsbD 2 = true then 48 else 43) va)

/-- R123: the largest enabled matching window decides, before the cache: in mode 0 every kind succeeds through it, in another
mode every kind is an access violation. (The address a window gives where `PA_BITS` is not 44 is the model's choice: log
entry 20.) -/
def Obligations.LargestMatchingWindowDecides : Prop :=
  ∀ (k : Kind) (va : Word) (s : State) (n : Nat), n < 3 → PassesCanonicalTest k va s → WindowApplies k va s n →
    (∀ m, n < m → m < 3 → ¬WindowApplies k va s m) →
      (s.cm = 0 → XlateAnswers k va s (.ok (windowPa s.cfg n va) ⟨true, true, true⟩)) ∧
        (s.cm ≠ 0 → XlateAnswers k va s (.err (.accessViolation true false false)))

/-- R123's table, R8: the three default windows and their mappings, on the bits of the address. -/
def Obligations.DefaultSuperpageWindows : Prop :=
  ∀ va : Word,
    (windowMatch Config.default 2 va = true ↔ va.extractLsb' 46 2 = 0b10#2) ∧
      (windowMatch Config.default 1 va = true ↔ va.extractLsb' 41 7 = 0x7E#7) ∧
      (windowMatch Config.default 0 va = true ↔ va.extractLsb' 30 18 = 0x3FFFE#18) ∧
      windowPa Config.default 2 va = (va.extractLsb' 0 44).setWidth 64 ∧
      windowPa Config.default 1 va = (((va.extractLsb' 0 41).signExtend 64).extractLsb' 0 44).setWidth 64 ∧
      windowPa Config.default 0 va = (va.extractLsb' 0 30).setWidth 64

/-- R124, R125: no matching entry under `CR.ASN` is a miss in which none existed; a first match with its valid bit clear is a
miss in which one existed, and later matches are not tried. -/
def Obligations.MissesTellWhetherAnEntryExisted : Prop :=
  ∀ (k : Kind) (va : Word) (s : State), ReachesLookup k va s →
    ((∀ e ∈ (s.tlb (streamOf k)).slots, ¬Answers s.cfg e va s.asn) → XlateAnswers k va s (.err (.miss false))) ∧
      ∀ i e, FirstAnswer s.cfg (s.tlb (streamOf k)) va s.asn i e → e.flags.getLsbD 0 = false →
        XlateAnswers k va s (.err (.miss true))

/-- R126: on a valid first match, a clear enable of the mode, `FOR` on a Read or `FOW` on a Write is an access violation that
names its causes; Execute tests the read enable and neither of the two flags. -/
def Obligations.DeniedAccessNamesItsCauses : Prop :=
  ∀ (k : Kind) (va : Word) (s : State) (i : Nat) (e : Slot), ReachesLookup k va s →
    FirstAnswer s.cfg (s.tlb (streamOf k)) va s.asn i e → e.flags.getLsbD 0 = true →
      (EnableClear k e s.cm ∨ (k = .read ∧ e.flags.getLsbD 1 = true) ∨ (k = .write ∧ e.flags.getLsbD 2 = true)) →
        ∃ acv onRead onWrite, XlateAnswers k va s (.err (.accessViolation acv onRead onWrite)) ∧
          (acv = true ↔ EnableClear k e s.cm) ∧
          (onRead = true ↔ k = .read ∧ e.flags.getLsbD 1 = true) ∧
          (onWrite = true ↔ k = .write ∧ e.flags.getLsbD 2 = true)

/-- R127: on an allowed valid first match the physical address takes its page-offset bits, as many as the entry's page has,
from the address and the rest from the page number; the capability mask says what the page permits in the mode. -/
def Obligations.AllowedAccessGivesAddressAndCapabilities : Prop :=
  ∀ (k : Kind) (va : Word) (s : State) (i : Nat) (e : Slot), ReachesLookup k va s →
    FirstAnswer s.cfg (s.tlb (streamOf k)) va s.asn i e → e.flags.getLsbD 0 = true →
      ¬(EnableClear k e s.cm ∨ (k = .read ∧ e.flags.getLsbD 1 = true) ∨ (k = .write ∧ e.flags.getLsbD 2 = true)) →
        ∃ pa cap, XlateAnswers k va s (.ok pa cap) ∧
          (∀ j < 64, pa.getLsbD j =
            if j < e.pageShift s.cfg then va.getLsbD j else (e.ppn <<< s.cfg.pageShift).getLsbD j) ∧
          (cap.r = true ↔ ReadEnabled e s.cm ∧ e.flags.getLsbD 1 = false) ∧
          (cap.w = true ↔ WriteEnabled e s.cm ∧ e.flags.getLsbD 2 = false) ∧
          (cap.x = true ↔ ReadEnabled e s.cm)

/-- R120, R130: XLATE always answers and changes nothing; a MEMX whose translation succeeds answers the same descriptor and
changes nothing; and the kind that was asked for is always in the capability mask (R127). -/
def Obligations.SuccessfulMemxAnswersLikeXlate : Prop :=
  OpensAs 0x08000000 (fun a _ => .xlate .read a) ∧ OpensAs 0x08000100 (fun a _ => .xlate .write a) ∧
    OpensAs 0x08000200 (fun a _ => .xlate .execute a) ∧
    ∀ (k : Kind) (va : Word) (s : State), ∃ r, XlateAnswers k va s r ∧
      ∀ pa cap, r = .ok pa cap →
        (∀ insn, Ends (.memx k va insn) s (.translation (.ok pa cap)) [] s) ∧
          (match k with
            | .read => cap.r = true
            | .write => cap.w = true
            | .execute => cap.x = true)

/-- R130, R132, R133: a data-stream MEMX whose translation fails, with the instruction word given and the slot free, records the
address, the access type and the register, and raises the condition of R132's table; nothing else changes. -/
def Obligations.DataFaultRecordsItsDiagnostics : Prop :=
  ∀ (k : Kind) (va : Word) (insn : Word32) (s : State) (r : FaultReason), k ≠ .execute →
    XlateAnswers k va s (.err r) → s.excCond = none →
      ∃ t, exec (.memx k va (some insn)) s = .next t ∧
        t.faultVa = va ∧ t.excSum.toNat = insn.toNat / 2 ^ 21 % 2 ^ 5 * 2 ^ 8 ∧
        (t.mmStat.getLsbD 0 = true ↔ k = .write) ∧
        (t.mmStat.getLsbD 1 = true ↔ r = .badVirtualAddress ∨ ∃ onRead onWrite, r = .accessViolation true onRead onWrite) ∧
        (t.mmStat.getLsbD 2 = true ↔ ∃ acv onWrite, r = .accessViolation acv true onWrite) ∧
        (t.mmStat.getLsbD 3 = true ↔ ∃ acv onRead, r = .accessViolation acv onRead true) ∧
        t.mmStat.extractLsb' 4 6 = insn.extractLsb' 26 6 ∧
        t.excCond = some (.vectored
          (match r with
            | .miss false => s.cfg.vecDtbmSingle
            | .miss true => s.cfg.vecDtbmDouble
            | .badVirtualAddress => s.cfg.vecDfault
            | .accessViolation _ _ _ => s.cfg.vecDfault)) ∧
        t.excAux = 0 ∧ t.reply = t.excCond.map (fun c => ⟨.fault c, []⟩) ∧
        { t with faultVa := s.faultVa, excSum := s.excSum, mmStat := s.mmStat, excCond := s.excCond, excAux := s.excAux,
                 reply := s.reply } = s

/-- R130, R132, R134: an instruction-stream MEMX whose translation fails raises instruction miss or instruction access
violation, whether or not an instruction word was given, and records nothing else. -/
def Obligations.FetchFaultRecordsNothingElse : Prop :=
  ∀ (va : Word) (insn : Option Word32) (s : State) (r : FaultReason), XlateAnswers .execute va s (.err r) →
    s.excCond = none →
      exec (.memx .execute va insn) s = .next
        (Raised
          (.vectored
            (match r with
              | .miss _ => s.cfg.vecItbMiss
              | .badVirtualAddress => s.cfg.vecIacv
              | .accessViolation _ _ _ => s.cfg.vecIacv)) 0 s)

/-! ## Control registers -/

/-- R150, R152, R154 to R169 (reads), R31: what each RDCTL answers; no read changes state or emits an event. -/
def Obligations.RdctlAnswersTheRegister : Prop :=
  ∀ s : State,
    (∀ p ∈ ([(.rdctlAsn, s.asn), (.rdctlCm, s.cm.setWidth 64), (.rdctlIer, s.ier), (.rdctlIpend, s.ipend),
        (.rdctlIsum, s.ipend &&& s.ier), (.rdctlSirr, s.sirr), (.rdctlIvptb, s.ivptb), (.rdctlDvptb, s.dvptb),
        (.rdctlExcAddr, s.excAddr), (.rdctlExcSum, s.excSum), (.rdctlMmStat, s.mmStat.setWidth 64),
        (.rdctlFaultVa, s.faultVa), (.rdctlCpuid, s.cfg.cpuidValue), (.rdctlPalBase, s.palBase),
        (.rdctlIctl, s.ictl.setWidth 64), (.rdctlDctl, s.dctl.setWidth 64)] : List (Instr × Word)),
      Ends p.1 s (.value p.2) [] s) ∧
      (∀ i ∈ ([.rdctlItbTag, .rdctlItbPte, .rdctlItbIa, .rdctlItbIap, .rdctlItbIs, .rdctlDtbTag, .rdctlDtbPte,
          .rdctlDtbIa, .rdctlDtbIap, .rdctlDtbIs] : List Instr), Ends i s (.value 0) [] s) ∧
      ∀ id, Ends (.rdctlOther id) s (.value 0) [] s

/-- R160 to R163, R167, R170: the registers that store all 64 bits written, without a side effect, and what each reads. -/
def Obligations.PlainRegistersStoreTheWholeValue : Prop :=
  ∀ (v : Word) (s : State),
    Ends (.wrctlIvptb v) s (.value 0) [] { s with ivptb := v } ∧
      Ends (.wrctlDvptb v) s (.value 0) [] { s with dvptb := v } ∧
      Ends (.wrctlExcAddr v) s (.value 0) [] { s with excAddr := v } ∧
      Ends (.wrctlExcSum v) s (.value 0) [] { s with excSum := v } ∧
      Ends (.wrctlPalBase v) s (.value 0) [] { s with palBase := v } ∧
      Ends (.wrctlItbTag v) s (.value 0) [] { s with itbTag := v } ∧
      Ends (.wrctlDtbTag v) s (.value 0) [] { s with dtbTag := v } ∧
      Ends .rdctlIvptb s (.value s.ivptb) [] s ∧ Ends .rdctlDvptb s (.value s.dvptb) [] s ∧
      Ends .rdctlExcAddr s (.value s.excAddr) [] s ∧ Ends .rdctlExcSum s (.value s.excSum) [] s ∧
      Ends .rdctlPalBase s (.value s.palBase) [] s ∧ Ends .rdctlItbTag s (.value 0) [] s ∧
      Ends .rdctlDtbTag s (.value 0) [] s

/-- R153: a write to a read-only id or to an unimplemented id changes no state and emits `diag(unmodeled_write, id, value)`. -/
def Obligations.IgnoredWritesOnlyDiagnose : Prop :=
  ∀ (v : Word) (s : State),
    (∀ p ∈ ([(.wrctlIpend v, 0x03), (.wrctlIsum v, 0x04), (.wrctlMmStat v, 0x0A), (.wrctlFaultVa v, 0x0B),
        (.wrctlCpuid v, 0x0C)] : List (Instr × ByteField)),
      Ends p.1 s (.value 0) [.diag (.unmodeledWrite p.2 v)] s) ∧
      ∀ id, Ends (.wrctlOther id v) s (.value 0) [.diag (.unmodeledWrite id v)] s

/-- R154, R175: WRCTL ASN stores the low `ASN_BITS` bits; when the value changes and `ASN_WRITE_FLUSHES` holds no address hits
in either cache afterwards, global entries included; otherwise the caches stay. No `icache_inval_all`. -/
def Obligations.WritingAnotherAsnFlushesBothCaches : Prop :=
  ∀ (v : Word) (s : State), ∃ t, Ends .rdctlAsn s (.value s.asn) [] s ∧
    exec (.wrctlAsn v) s = .next t ∧ t.asn = v &&& lowMask s.cfg.asnBits ∧
    t.reply = some ⟨.done (.value 0), if v &&& ~~~(lowMask s.cfg.asnBits) = 0 then [] else [.diag (.reservedBits 0x00 v)]⟩ ∧
    (t.asn ≠ s.asn → s.cfg.asnWriteFlushes = true → ∀ st,
      (∀ i : Nat, (t.tlb st).slots[i]? = (s.tlb st).slots[i]?.map fun e => { e with live := false }) ∧
        (t.tlb st).next = (s.tlb st).next ∧ ∀ va asn, (t.tlb st).lookup t.cfg va asn = none) ∧
    (t.asn = s.asn ∨ s.cfg.asnWriteFlushes = false → t.itb = s.itb ∧ t.dtb = s.dtb) ∧
    { t with asn := s.asn, itb := s.itb, dtb := s.dtb, reply := s.reply } = s

/-- R155, R156, R169, R175, R31, R47: WRCTL CM, IER and DCTL store their fields, diagnose reserved bits and do nothing else; the
interrupt summary and the request line follow a write of IER in the same step. -/
def Obligations.MaskedRegistersStoreTheirFields : Prop :=
  ∀ (v : Word) (s : State),
    Ends .rdctlCm s (.value (s.cm.setWidth 64)) [] s ∧ Ends .rdctlIer s (.value s.ier) [] s ∧
      Ends .rdctlDctl s (.value (s.dctl.setWidth 64)) [] s ∧
    (∃ t, exec (.wrctlCm v) s = .next t ∧ t.cm.toNat = v.toNat % 4 ∧
      t.reply = some ⟨.done (.value 0), if v.toNat / 4 = 0 then [] else [.diag (.reservedBits 0x01 v)]⟩ ∧
      { t with cm := s.cm, reply := s.reply } = s) ∧
      (∃ t, exec (.wrctlIer v) s = .next t ∧
        (∀ i < 64, t.ier.getLsbD i = (v.getLsbD i &&
          (s.cfg.swintMask.getLsbD i || decide (s.cfg.hwintShift ≤ i ∧ i < s.cfg.hwintShift + s.cfg.hwintCount)))) ∧
        t.isum = s.ipend &&& t.ier ∧ (t.irqLine = true ↔ s.ipend &&& t.ier ≠ 0 ∧ s.pal = false) ∧
        t.reply = some ⟨.done (.value 0), if v = t.ier then [] else [.diag (.reservedBits 0x02 v)]⟩ ∧
        { t with ier := s.ier, reply := s.reply } = s) ∧
      (∃ t, exec (.wrctlDctl v) s = .next t ∧ t.dctl.toNat = v.toNat / 4 % 16 * 4 ∧
        t.reply = some ⟨.done (.value 0), if v.toNat = t.dctl.toNat then [] else [.diag (.reservedBits 0x0F v)]⟩ ∧
        { t with dctl := s.dctl, reply := s.reply } = s)

/-- R159, R175: WRCTL SIRR stores its bits and makes the software field of IPEND a copy of them; the hardware field is
untouched. -/
def Obligations.SirrWriteCopiesIntoIpend : Prop :=
  ∀ (v : Word) (s : State), ∃ t, Ends .rdctlSirr s (.value s.sirr) [] s ∧ exec (.wrctlSirr v) s = .next t ∧
    (∀ i < 64, t.sirr.getLsbD i = (v.getLsbD i && s.cfg.swintMask.getLsbD i)) ∧
    (∀ i < 64, t.ipend.getLsbD i =
      if s.cfg.swintMask.getLsbD i = true then v.getLsbD i else s.ipend.getLsbD i) ∧
    t.isum = t.ipend &&& s.ier ∧
    t.reply = some ⟨.done (.value 0), if v = t.sirr then [] else [.diag (.reservedBits 0x05 v)]⟩ ∧
    { t with sirr := s.sirr, ipend := s.ipend, reply := s.reply } = s

/-- R168, R175: WRCTL ICTL stores the low six bits; in privileged mode a change of `SDE`, in either direction, swaps the
shadow bank, and otherwise no register changes. -/
def Obligations.IctlWriteSwapsOnlyWhenPrivilegedSdeChanges : Prop :=
  ∀ (v : Word) (s : State), ∃ t, exec (.wrctlIctl v) s = .next t ∧ t.ictl.toNat = v.toNat % 64 ∧
    (s.pal = true → v.getLsbD 0 ≠ s.ictl.getLsbD 0 → t.x = s.swapShadow.x ∧ t.sh = s.swapShadow.sh) ∧
    (s.pal = false ∨ v.getLsbD 0 = s.ictl.getLsbD 0 → t.x = s.x ∧ t.sh = s.sh) ∧
    t.reply = some ⟨.done (.value 0), if v.toNat / 64 = 0 then [] else [.diag (.reservedBits 0x0E v)]⟩ ∧
    { t with ictl := s.ictl, x := s.x, sh := s.sh, reply := s.reply } = s

/-- R23: the swap exchanges exactly the eight pairs, and is its own inverse. -/
def Obligations.SwapExchangesExactlyTheEightPairs : Prop :=
  ∀ s : State, s.Inv →
    (∀ j < 8, s.swapShadow.readX (s.cfg.shadowSet.getD j 0) = s.sh.getD j 0 ∧
        s.swapShadow.sh.getD j 0 = s.readX (s.cfg.shadowSet.getD j 0)) ∧
      (∀ n, n ∉ s.cfg.shadowSet → s.swapShadow.readX n = s.readX n) ∧
      { s.swapShadow with x := s.x, sh := s.sh } = s ∧ s.swapShadow.swapShadow = s

/-- R171 to R174: the TLB registers act as the TLB commands do, each on its own stream; the invalidate-all and
invalidate-ASM-only registers also emit `icache_inval_all`, the others what their command emits. All read zero. -/
def Obligations.TlbRegistersActAsTheTlbCommands : Prop :=
  ∀ (v : Word) (s : State),
    (∃ t, exec (.tbins .i s.itbTag v) s = .next t ∧ exec (.wrctlItbPte v) s = .next t ∧ t.itbTag = s.itbTag) ∧
      (∃ t, exec (.tbins .d s.dtbTag v) s = .next t ∧ exec (.wrctlDtbPte v) s = .next t ∧ t.dtbTag = s.dtbTag) ∧
      (∃ t, exec (.tbia .i) s = .next t ∧ Ends (.wrctlItbIa v) s (.value 0) [.icacheInvalAll] t) ∧
      (∃ t, exec (.tbia .d) s = .next t ∧ Ends (.wrctlDtbIa v) s (.value 0) [.icacheInvalAll] t) ∧
      (∃ t, exec (.tbiap .i) s = .next t ∧ Ends (.wrctlItbIap v) s (.value 0) [.icacheInvalAll] t) ∧
      (∃ t, exec (.tbiap .d) s = .next t ∧ Ends (.wrctlDtbIap v) s (.value 0) [.icacheInvalAll] t) ∧
      (∃ t, exec (.tbis .i v) s = .next t ∧ exec (.wrctlItbIs v) s = .next t) ∧
      (∃ t, exec (.tbis .d v) s = .next t ∧ exec (.wrctlDtbIs v) s = .next t) ∧
      ∀ i ∈ ([.rdctlItbPte, .rdctlItbIa, .rdctlItbIap, .rdctlItbIs, .rdctlDtbPte, .rdctlDtbIa, .rdctlDtbIap,
          .rdctlDtbIs] : List Instr), Ends i s (.value 0) [] s

/-- R20 to R48, R109, R157, R201, R210: a command that changes a general or shadow register, `pc`, `pal`, `xlate_ctx`, a control
register (each field of IPEND by itself), a translation cache, `exc.cond`, `exc.aux`, `intr_flag` or a tag latch is one of those
that are named here, the writers its rules give it. -/
def Obligations.StateChangesOnlyThroughItsWriters : Prop :=
  ∀ (i : Instr) (s t : State), exec i s = .next t →
    (t.asn ≠ s.asn → ∃ v, i = .wrctlAsn v) ∧
      (t.cm ≠ s.cm → ∃ v, i = .wrctlCm v) ∧
      (t.ier ≠ s.ier → ∃ v, i = .wrctlIer v) ∧
      (t.sirr ≠ s.sirr → ∃ v, i = .wrctlSirr v) ∧
      (t.ipend &&& hwintMask s.cfg ≠ s.ipend &&& hwintMask s.cfg → s.cfg.wf = true → ∃ l, i = .irq l) ∧
      (t.ipend &&& s.cfg.swintMask ≠ s.ipend &&& s.cfg.swintMask → s.cfg.wf = true → ∃ v, i = .wrctlSirr v) ∧
      (t.ictl ≠ s.ictl → ∃ v, i = .wrctlIctl v) ∧
      (t.dctl ≠ s.dctl → ∃ v, i = .wrctlDctl v) ∧
      (t.palBase ≠ s.palBase → ∃ v, i = .wrctlPalBase v) ∧
      (t.ivptb ≠ s.ivptb → ∃ v, i = .wrctlIvptb v) ∧
      (t.dvptb ≠ s.dvptb → ∃ v, i = .wrctlDvptb v) ∧
      (t.itbTag ≠ s.itbTag → ∃ v, i = .wrctlItbTag v) ∧
      (t.dtbTag ≠ s.dtbTag → ∃ v, i = .wrctlDtbTag v) ∧
      (t.excAddr ≠ s.excAddr → i = .dispatch ∨ (∃ target, i = .palret target) ∨ ∃ v, i = .wrctlExcAddr v) ∧
      (t.excSum ≠ s.excSum → (∃ aux, i = .raiseGArith aux) ∨ (∃ k va insn, i = .memx k va insn ∧ k ≠ .execute) ∨
        IsChecked i ∨ ∃ v, i = .wrctlExcSum v) ∧
      (t.excCond ≠ s.excCond ∨ t.excAux ≠ s.excAux → i = .dispatch ∨ IsRaiser i) ∧
      (t.pc ≠ s.pc → i = .dispatch ∨ (∃ target, i = .palret target) ∨ ∃ v, i = .wrpc v) ∧
      (t.pal ≠ s.pal ∨ t.xlateCtx ≠ s.xlateCtx → i = .dispatch ∨ ∃ target, i = .palret target) ∧
      (t.x ≠ s.x → IsSwapper i ∨ ∃ n v, i = .wrgpr n v) ∧
      (t.sh ≠ s.sh → IsSwapper i) ∧
      (t.mmStat ≠ s.mmStat ∨ t.faultVa ≠ s.faultVa → ∃ k va insn, i = .memx k va insn ∧ k ≠ .execute) ∧
      (t.intrFlag ≠ s.intrFlag → i = .rs ∨ i = .rc) ∧
      (t.itb ≠ s.itb → (∃ va pte, i = .tbins .i va pte) ∨ i = .tbia .i ∨ i = .tbiap .i ∨ (∃ va, i = .tbis .i va) ∨
        ∃ v, i = .wrctlAsn v ∨ i = .wrctlItbPte v ∨ i = .wrctlItbIa v ∨ i = .wrctlItbIap v ∨ i = .wrctlItbIs v) ∧
      (t.dtb ≠ s.dtb → (∃ va pte, i = .tbins .d va pte) ∨ i = .tbia .d ∨ i = .tbiap .d ∨ (∃ va, i = .tbis .d va) ∨
        ∃ v, i = .wrctlAsn v ∨ i = .wrctlDtbPte v ∨ i = .wrctlDtbIa v ∨ i = .wrctlDtbIap v ∨ i = .wrctlDtbIs v)

/-! ## The dispatcher -/

/-- R200, R201: each RAISE fills the slot and the auxiliary code, the arithmetic one `EXC_SUM` too, and nothing else; with a
condition in the slot it is refused. -/
def Obligations.RaisePlacesTheCondition : Prop :=
  OpensAs 0x18000100 (fun _ b => .raiseGOpcdec b) ∧ OpensAs 0x18010100 (fun _ b => .raiseGArith b) ∧
    OpensAs 0x18020100 (fun _ b => .raiseGFen b) ∧ OpensAs 0x18030100 (fun _ b => .raiseGInterrupt b) ∧
    (∀ a b insn valid, a.toNat < 2 ^ 16 → decode ⟨0x18000000, a, b, insn, valid⟩ = .instr (.raiseV (a.setWidth 16) b)) ∧
    ∀ (off : Offset) (aux : Word) (s : State),
      ∀ p ∈ ([(.raiseGOpcdec aux, .generic .opcdec), (.raiseGArith aux, .generic .arith), (.raiseGFen aux, .generic .fen),
          (.raiseGInterrupt aux, .generic .interrupt), (.raiseV off aux, .vectored off)] : List (Instr × Condition)),
        (s.excCond = none → exec p.1 s = .next
          { s with
            excCond := some p.2
            excAux := aux
            excSum := if p.1 = .raiseGArith aux then aux else s.excSum
            reply := some ⟨.fault p.2, []⟩ }) ∧
          (s.excCond ≠ none → exec p.1 s = .refused .conditionAlreadyRaised)

/-- R202 to R206, R297: DISPATCH. `EXC_ADDR` takes the pc with the prior mode in bit 0, the slot is cleared, control goes to
`PAL_BASE + offset` in privileged mode; the eight registers are swapped exactly when shadow mode is on and the entry is from
normal mode; a call-class entry with `CALLR` on writes the old pc into the link register of the bank then visible. Nothing else
changes; with nothing raised it is refused. -/
def Obligations.DispatchTakesTheCondition : Prop :=
  OpensAs 0x19000000 (fun _ _ => .dispatch) ∧
    (∀ s : State, s.excCond = none → exec .dispatch s = .refused .nothingRaised) ∧
    ∀ (s : State) (c : Condition), s.Inv → s.excCond = some c →
      let off := match c with
        | .generic .opcdec => s.cfg.vecOpcdec
        | .generic .arith => s.cfg.vecArith
        | .generic .fen => s.cfg.vecFen
        | .generic .interrupt => s.cfg.vecInterrupt
        | .vectored v => v
      let entered := if s.ictl.getLsbD 0 = true ∧ s.pal = false then s.swapShadow else s
      ∃ t, exec .dispatch s = .next t ∧
        t.excAddr = (if s.pal = true then s.pc ||| 1 else s.pc) ∧ t.excCond = none ∧ t.excAux = 0 ∧
        t.pc = s.palBase + off.setWidth 64 ∧ t.pal = true ∧ t.xlateCtx = .pal ∧ t.irqLine = false ∧
        t.sh = entered.sh ∧
        (∀ n, t.readX n =
          if isCallVec s.cfg off = true ∧ s.ictl.getLsbD 1 = true ∧ n = s.cfg.callLinkReg then s.pc
          else entered.readX n) ∧
        t.reply = some ⟨.done (.value t.pc), []⟩ ∧
        { t with excAddr := s.excAddr, excCond := s.excCond, excAux := s.excAux, pc := s.pc, pal := s.pal,
                 xlateCtx := s.xlateCtx, x := s.x, sh := s.sh, reply := s.reply } = s

/-- R207, R208: a return that is not redirected sets `pc` to the target with its low two bits cleared and the mode to bit 0 of
the target, and swaps the shadow bank back exactly when `SDE = 1` and it leaves privileged mode; nothing else changes. -/
def Obligations.PalretReturnsToItsTarget : Prop :=
  OpensAs 0x1A000000 (fun a _ => .palret a) ∧
    ∀ (target : Word) (s : State), s.pal = true → (s.ipend &&& s.ier = 0 ∨ target.getLsbD 0 = true) →
      let left := if s.ictl.getLsbD 0 = true ∧ target.getLsbD 0 = false then s.swapShadow else s
      ∃ t, exec (.palret target) s = .next t ∧ t.pc.toNat = target.toNat / 4 * 4 ∧ t.pal = target.getLsbD 0 ∧
        t.xlateCtx = (if target.getLsbD 0 = true then .pal else .normal) ∧ t.x = left.x ∧ t.sh = left.sh ∧
        t.reply = some ⟨.done (.value t.pc), []⟩ ∧
        { t with pc := s.pc, pal := s.pal, xlateCtx := s.xlateCtx, x := s.x, sh := s.sh, reply := s.reply } = s

/-- R207, R209: with an interrupt summarised and a target that is not privileged, PALRET records the target in `EXC_ADDR`, goes
to the interrupt vector and changes nothing else; a return to a privileged target is never redirected; in normal mode PALRET
is refused. -/
def Obligations.PalretRedirectsToThePendingInterrupt : Prop :=
  ∀ (target : Word) (s : State),
    (s.pal = true → s.ipend &&& s.ier ≠ 0 → target.getLsbD 0 = false →
      Ends (.palret target) s (.value (s.palBase + s.cfg.vecInterrupt.setWidth 64)) []
        { s with excAddr := target, pc := s.palBase + s.cfg.vecInterrupt.setWidth 64 }) ∧
      (s.pal = true → target.getLsbD 0 = true →
        Ends (.palret target) s (.value (target &&& ~~~3#64)) [] { s with pc := target &&& ~~~3#64, xlateCtx := .pal }) ∧
      (s.pal = false → exec (.palret target) s = .refused .notPrivileged)

/-- R47, R209, R213, R300: privileged mode is entered only by DISPATCH and left only by PALRET, never with an interrupt
summarised; while the block is in it the request line is low. -/
def Obligations.PrivilegedModeIsEnteredAndLeftOnlyByItsCommands : Prop :=
  ∀ (i : Instr) (s t : State), exec i s = .next t →
    (s.pal = false → t.pal = true → i = .dispatch) ∧
      (s.pal = true → t.pal = false → (∃ target, i = .palret target ∧ target.getLsbD 0 = false) ∧
        t.ipend &&& t.ier = 0 ∧ t.irqLine = false) ∧
      (t.pal = true → t.irqLine = false)

/-- R210, R31: IRQ makes the hardware field of IPEND the asserted lines, line `n` at bit `HWINT_SHIFT + n`, in every state, and
changes nothing else; operand bits from `HWINT_COUNT` on are ignored. -/
def Obligations.IrqReplacesTheHardwareField : Prop :=
  OpensAs 0x1B000000 (fun a _ => .irq a) ∧
    ∀ (lines : Word) (s : State), s.cfg.wf = true → ∃ t, exec (.irq lines) s = .next t ∧
      (∀ n < s.cfg.hwintCount, t.ipend.getLsbD (s.cfg.hwintShift + n) = lines.getLsbD n) ∧
      (∀ i < 64, (i < s.cfg.hwintShift ∨ s.cfg.hwintShift + s.cfg.hwintCount ≤ i) →
        t.ipend.getLsbD i = s.ipend.getLsbD i) ∧
      t.isum = t.ipend &&& s.ier ∧ (t.irqLine = true ↔ t.ipend &&& s.ier ≠ 0 ∧ s.pal = false) ∧
      t.reply = some ⟨.done (.value 0), []⟩ ∧ { t with ipend := s.ipend, reply := s.reply } = s

/-- R211, R212, R46: RS answers the flag and sets it, RC answers it and clears it; nothing else changes. -/
def Obligations.RsAndRcAnswerTheOldFlag : Prop :=
  OpensAs 0x1C000000 (fun _ _ => .rs) ∧ OpensAs 0x1D000000 (fun _ _ => .rc) ∧
    ∀ s : State,
      Ends .rs s (.value (if s.intrFlag = true then 1 else 0)) [] { s with intrFlag := true } ∧
        Ends .rc s (.value (if s.intrFlag = true then 1 else 0)) [] { s with intrFlag := false }

/-- R90, R295, R297: with no condition raised, `TAKEIRQ` with the request line up enters privileged mode at the interrupt
vector with the pc recorded, leaves every pending and enable bit, and the line goes down; `TRAP.V` does the same at its own
offset. -/
def Obligations.TrapsEnterPrivilegedMode : Prop :=
  (∀ s : State, s.irqLine = true → s.excCond = none → ∃ t, takeIrq s = .next t ∧
      t.pc = s.palBase + s.cfg.vecInterrupt.setWidth 64 ∧ t.pal = true ∧ t.excAddr = s.pc ∧ t.irqLine = false ∧
      t.ipend = s.ipend ∧ t.ier = s.ier ∧ t.excCond = none ∧ t.cm = s.cm ∧ t.intrFlag = s.intrFlag) ∧
    ∀ (off : Offset) (aux : Word) (s : State), s.excCond = none → ∃ t, execAll (trapVectored off aux) s = .next t ∧
      t.pc = s.palBase + off.setWidth 64 ∧ t.pal = true ∧ t.excAddr = (if s.pal = true then s.pc ||| 1 else s.pc) ∧
      t.excCond = none ∧ t.excSum = s.excSum ∧ t.ipend = s.ipend ∧ t.ier = s.ier ∧ t.cm = s.cm

/-- R12, R23, R168, R204, R205, R208: the shadow bank protects the guest-visible values of the shadowed registers. No command
changes the normal-mode value of a shadowed register, but WRGPR while the shadow bank is out and DISPATCH with shadow mode off;
and while the shadow bank is out no command but DISPATCH changes a shadow value. -/
def Obligations.ShadowBankProtectsNormalRegisters : Prop :=
  ∀ (i : Instr) (s t : State) (j : Nat), s.Inv → exec i s = .next t → j < 8 →
    ((∀ n v, i = .wrgpr n v → s.shadowIn = true) → (i = .dispatch → s.ictl.getLsbD 0 = true) →
        t.normalBank j = s.normalBank j) ∧
      (s.shadowIn = false → i ≠ .dispatch → t.shadowBank j = s.shadowBank j)

/-! ## The floating-format codec -/

/-- R231, R232, R233: CVTFS. With `e8 = a[62] ## a[58:52]`: a reserved operand raises OPCDEC; true zero gives 0; an exponent of 1
or 2 gives `F_UNDERFLOW` of the sign, exponent and fraction; else the IEEE single of the same sign and fraction with exponent
`e8 - 2`. -/
def Obligations.CvtfsConvertsFormatF : Prop :=
  OpensAs 0x20000000 (fun a _ => .cvtfs a) ∧
    ∀ (a : Word) (s : State),
      let sign := a.toNat / 2 ^ 63
      let e8 := a.toNat / 2 ^ 62 % 2 * 2 ^ 7 + a.toNat / 2 ^ 52 % 2 ^ 7
      let frac := a.toNat / 2 ^ 29 % 2 ^ 23
      (e8 = 0 → (sign ≠ 0 ∨ frac ≠ 0) → s.excCond = none →
        exec (.cvtfs a) s = .next (Raised (.generic .opcdec) 0 s)) ∧
        (e8 = 0 → sign = 0 → frac = 0 → Ends (.cvtfs a) s (.value 0) [] s) ∧
        (e8 = 1 ∨ e8 = 2 → ∃ v : Word32, Ends (.cvtfs a) s (.value (v.setWidth 64)) [] s ∧
          v = fUnderflow s.cfg (decide (sign = 1)) (BitVec.ofNat 8 e8) (BitVec.ofNat 23 frac) ∧
          ∀ u, s.cfg.fUnderflow = .constant u → v = u) ∧
        (3 ≤ e8 → ∃ v, Ends (.cvtfs a) s (.value v) [] s ∧ v.toNat = sign * 2 ^ 31 + (e8 - 2) * 2 ^ 23 + frac)

/-- R231, R232, R234, R244: CVTSF. An infinity, a NaN or an exponent of 254 gives the dirty zero; a zero or subnormal gives true
zero, the sign dropped; else the F image with exponent `e + 2`, its fill `000` when bit 7 of that is set and `111` else. -/
def Obligations.CvtsfConvertsSingle : Prop :=
  OpensAs 0x21000000 (fun a _ => .cvtsf (a.setWidth 32)) ∧
    ∀ (b : Word32) (s : State),
      let sign := b.toNat / 2 ^ 31
      let e := b.toNat / 2 ^ 23 % 2 ^ 8
      let frac := b.toNat % 2 ^ 23
      (254 ≤ e → Ends (.cvtsf b) s (.value 0x0010000000000000) [] s) ∧
        (e = 0 → Ends (.cvtsf b) s (.value 0) [] s) ∧
        (1 ≤ e → e ≤ 253 → ∃ v, Ends (.cvtsf b) s (.value v) [] s ∧
          v.toNat = sign * 2 ^ 63 + (e + 2) / 2 ^ 7 * 2 ^ 62 + (if 2 ^ 7 ≤ e + 2 then 0 else 7) * 2 ^ 59 +
            (e + 2) % 2 ^ 7 * 2 ^ 52 + frac * 2 ^ 29)

/-- R235 (the spec's own inference from R233 and R234; 90_conflicts.md C5): the Format-F round trips. -/
def Obligations.FormatFRoundTrips : Prop :=
  (∀ (a : Word) (s : State), a.toNat % 2 ^ 29 = 0 → 3 ≤ (formatFExp a).toNat →
      a.extractLsb' 59 3 = (if a.getLsbD 62 = true then 0#3 else 7#3) →
        ∃ v, Ends (.cvtfs a) s (.value v) [] s ∧ Ends (.cvtsf (v.setWidth 32)) s (.value a) [] s) ∧
    ∀ (b : Word32) (s : State), 1 ≤ b.toNat / 2 ^ 23 % 2 ^ 8 → b.toNat / 2 ^ 23 % 2 ^ 8 ≤ 253 →
      ∃ v, Ends (.cvtsf b) s (.value v) [] s ∧ Ends (.cvtfs v) s (.value (b.setWidth 64)) [] s

/-- R232, R236, R237, R244: CVTGT and CVTTG, on the sign, the 11-bit exponent and the 52-bit fraction; CVTGT of an exponent
of 1 or 2 gives `G_UNDERFLOW` of the three. -/
def Obligations.CvtgtAndCvttgConvert : Prop :=
  OpensAs 0x22000000 (fun a _ => .cvtgt a) ∧ OpensAs 0x23000000 (fun a _ => .cvttg a) ∧
    ∀ (a : Word) (s : State),
      let sign := a.toNat / 2 ^ 63
      let e := a.toNat / 2 ^ 52 % 2 ^ 11
      let frac := a.toNat % 2 ^ 52
      (e = 0 → (sign ≠ 0 ∨ frac ≠ 0) → s.excCond = none →
        exec (.cvtgt a) s = .next (Raised (.generic .opcdec) 0 s)) ∧
        (e = 0 → sign = 0 → frac = 0 → Ends (.cvtgt a) s (.value 0) [] s) ∧
        (e = 1 ∨ e = 2 → ∃ v, Ends (.cvtgt a) s (.value v) [] s ∧
          v = gUnderflow s.cfg (decide (sign = 1)) (BitVec.ofNat 11 e) (BitVec.ofNat 52 frac) ∧
          ∀ u, s.cfg.gUnderflow = .constant u → v = u) ∧
        (3 ≤ e → ∃ v, Ends (.cvtgt a) s (.value v) [] s ∧ v.toNat = sign * 2 ^ 63 + (e - 2) * 2 ^ 52 + frac) ∧
        (2046 ≤ e → Ends (.cvttg a) s (.value 0x0010000000000000) [] s) ∧
        (e = 0 → Ends (.cvttg a) s (.value 0) [] s) ∧
        (1 ≤ e → e ≤ 2045 → ∃ v, Ends (.cvttg a) s (.value v) [] s ∧
          v.toNat = sign * 2 ^ 63 + (e + 2) * 2 ^ 52 + frac)

/-- R238 (the spec's own inference from R236 and R237): the Format-G round trips. -/
def Obligations.FormatGRoundTrips : Prop :=
  ∀ (a : Word) (s : State),
    (3 ≤ a.toNat / 2 ^ 52 % 2 ^ 11 →
      ∃ v, Ends (.cvtgt a) s (.value v) [] s ∧ Ends (.cvttg v) s (.value a) [] s) ∧
      (1 ≤ a.toNat / 2 ^ 52 % 2 ^ 11 → a.toNat / 2 ^ 52 % 2 ^ 11 ≤ 2045 →
        ∃ v, Ends (.cvttg a) s (.value v) [] s ∧ Ends (.cvtgt v) s (.value a) [] s)

/-- R239 to R242: the S and T images. LDS spreads the image and fills bits 61:59 with `111` when the value is no infinity or NaN
and bit 30 is clear; STS drops those bits and the low 29; LDT and STT are the identity. That STS gives back what LDS took is the
spec's own inference (R240: "derived: from rule R239"). -/
def Obligations.SAndTImagesConvert : Prop :=
  OpensAs 0x24000000 (fun a _ => .lds (a.setWidth 32)) ∧ OpensAs 0x25000000 (fun a _ => .sts a) ∧
    OpensAs 0x26000000 (fun a _ => .ldt a) ∧ OpensAs 0x27000000 (fun a _ => .stt a) ∧
    (∀ (m : Word32) (s : State), ∃ v, Ends (.lds m) s (.value v) [] s ∧
      v.toNat = m.toNat / 2 ^ 30 * 2 ^ 62 + m.toNat % 2 ^ 30 * 2 ^ 29 +
        (if m.toNat / 2 ^ 23 % 2 ^ 8 ≠ 255 ∧ m.toNat / 2 ^ 30 % 2 = 0 then 7 * 2 ^ 59 else 0) ∧
      Ends (.sts v) s (.value (m.setWidth 64)) [] s) ∧
    ∀ (r : Word) (s : State),
      (∃ v, Ends (.sts r) s (.value v) [] s ∧ v.toNat = r.toNat / 2 ^ 62 * 2 ^ 30 + r.toNat / 2 ^ 29 % 2 ^ 30) ∧
        Ends (.ldt r) s (.value r) [] s ∧ Ends (.stt r) s (.value r) [] s

/-! ## Overflow-checked arithmetic -/

/-- R260, R264, R265: ADDQV and SUBQV by their bit tests: on overflow ARITH is raised with `ARITH_AUX_IOV` (which lands in
`EXC_SUM`), else the wrapped sum or difference is the result; the mathematical and the bit test agree. -/
def Obligations.QuadAddSubOverflowByTheirBitTests : Prop :=
  OpensAs 0x2B000000 (fun a b => .addqv a b) ∧ OpensAs 0x2C000000 (fun a b => .subqv a b) ∧
    ∀ (a b : Word) (s : State),
      let addOverflows := a.getLsbD 63 = b.getLsbD 63 ∧ (a + b).getLsbD 63 ≠ a.getLsbD 63
      let subOverflows := a.getLsbD 63 ≠ b.getLsbD 63 ∧ (a - b).getLsbD 63 ≠ a.getLsbD 63
      (addOverflows ↔ a.toInt + b.toInt < -2 ^ 63 ∨ 2 ^ 63 - 1 < a.toInt + b.toInt) ∧
        (subOverflows ↔ a.toInt - b.toInt < -2 ^ 63 ∨ 2 ^ 63 - 1 < a.toInt - b.toInt) ∧
        (¬addOverflows → Ends (.addqv a b) s (.value (a + b)) [] s) ∧
        (addOverflows → s.excCond = none →
          exec (.addqv a b) s = .next (Raised (.generic .arith) s.cfg.arithAuxIov s)) ∧
        (¬subOverflows → Ends (.subqv a b) s (.value (a - b)) [] s) ∧
        (subOverflows → s.excCond = none →
          exec (.subqv a b) s = .next (Raised (.generic .arith) s.cfg.arithAuxIov s))

/-- R260, R266: MULQV: overflow exactly when bits 127:63 of the signed 128-bit product are neither all zeros nor all ones. -/
def Obligations.QuadMultiplyOverflowByTheWideProduct : Prop :=
  OpensAs 0x2D000000 (fun a b => .mulqv a b) ∧
    ∀ (a b : Word) (s : State),
      let p := a.signExtend 128 * b.signExtend 128
      let overflows := p.extractLsb' 63 65 ≠ 0#65 ∧ p.extractLsb' 63 65 ≠ BitVec.allOnes 65
      (overflows ↔ a.toInt * b.toInt < -2 ^ 63 ∨ 2 ^ 63 - 1 < a.toInt * b.toInt) ∧
        (¬overflows → Ends (.mulqv a b) s (.value (a * b)) [] s) ∧
        (overflows → s.excCond = none →
          exec (.mulqv a b) s = .next (Raised (.generic .arith) s.cfg.arithAuxIov s))

/-- R260 to R262: ADDLV and SUBLV on the low halves, by their bit tests; the result's bits 63:32 copy bit 31. -/
def Obligations.LongAddSubOverflowByTheirBitTests : Prop :=
  OpensAs 0x28000000 (fun a b => .addlv a b) ∧ OpensAs 0x29000000 (fun a b => .sublv a b) ∧
    ∀ (a b : Word) (s : State),
      let sum := a.setWidth 32 + b.setWidth 32
      let diff := a.setWidth 32 - b.setWidth 32
      let addOverflows := a.getLsbD 31 = b.getLsbD 31 ∧ sum.getLsbD 31 ≠ a.getLsbD 31
      let subOverflows := a.getLsbD 31 ≠ b.getLsbD 31 ∧ diff.getLsbD 31 ≠ a.getLsbD 31
      (¬addOverflows → Ends (.addlv a b) s (.value (sum.signExtend 64)) [] s) ∧
        (addOverflows → s.excCond = none →
          exec (.addlv a b) s = .next (Raised (.generic .arith) s.cfg.arithAuxIov s)) ∧
        (¬subOverflows → Ends (.sublv a b) s (.value (diff.signExtend 64)) [] s) ∧
        (subOverflows → s.excCond = none →
          exec (.sublv a b) s = .next (Raised (.generic .arith) s.cfg.arithAuxIov s))

/-- R260, R263: MULLV: the signed product of the low halves fits in 64 bits; overflow exactly when it is not the sign extension
of its own low half, that is, when it leaves the signed 32-bit range. -/
def Obligations.LongMultiplyOverflowByTheWideProduct : Prop :=
  OpensAs 0x2A000000 (fun a b => .mullv a b) ∧
    ∀ (a b : Word) (s : State),
      let p : Word := (a.setWidth 32).signExtend 64 * (b.setWidth 32).signExtend 64
      let overflows := (p.setWidth 32).signExtend 64 ≠ p
      let m := (a.setWidth 32).toInt * (b.setWidth 32).toInt
      (overflows ↔ m < -2 ^ 31 ∨ 2 ^ 31 - 1 < m) ∧ (¬overflows → Ends (.mullv a b) s (.value p) [] s) ∧
        (overflows → s.excCond = none →
          exec (.mullv a b) s = .next (Raised (.generic .arith) s.cfg.arithAuxIov s))

/-! ## The register port -/

/-- R21, R280, R281: WRGPR writes exactly its register, and register 31 not at all; RDGPR answers a register, 31 always zero. -/
def Obligations.GeneralRegisterPortReadsWhatWasWritten : Prop :=
  (∀ n : BitVec 5, OpensAs (0x30000000 + n.setWidth 32 <<< 16) (fun _ _ => .rdgpr n) ∧
      OpensAs (0x31000000 + n.setWidth 32 <<< 16) (fun a _ => .wrgpr n a)) ∧
  (∀ (n : BitVec 5) (v : Word) (s : State), s.Inv → ∃ t, exec (.wrgpr n v) s = .next t ∧
      (∀ m : BitVec 5, Ends (.rdgpr m) t (.value (if m = 31 then 0 else if m = n then v else s.x.getD m.toNat 0)) [] t) ∧
      (n = 31 → t.x = s.x) ∧ (∀ r, r ≠ n.toNat → t.x[r]? = s.x[r]?) ∧ t.reply = some ⟨.done (.value 0), []⟩ ∧
      { t with x := s.x, reply := s.reply } = s) ∧
    ∀ (n : BitVec 5) (s : State), Ends (.rdgpr n) s (.value (if n = 31 then 0 else s.x.getD n.toNat 0)) [] s

/-- R282, R283: RDPC answers `pc`; WRPC stores all 64 bits, without alignment, and leaves `pal`. -/
def Obligations.PcPortReadsAndWritesAllBits : Prop :=
  OpensAs 0x32000000 (fun _ _ => .rdpc) ∧ OpensAs 0x33000000 (fun a _ => .wrpc a) ∧
    ∀ (v : Word) (s : State), Ends .rdpc s (.value s.pc) [] s ∧ Ends (.wrpc v) s (.value 0) [] { s with pc := v }
end

