-- ==== Sys2Proof/Laws/Decode.lean ====
section
/-! SUPPORT. The decoder on the fields of a word (30_encoding.md R81, R84), and the fields of an encoded word. -/

namespace Sys2Proof

/-- The decoder from the four fields of the command word: a proof about one word gives them by `decide`. -/
theorem decode_of_fields {w insn : Word32} {a b : Word} {valid : Bool} (opc : Nat) (idx md : ByteField)
    (hz : zeroField w = 0#8) (ho : (opcField w).toNat = opc) (hi : idxField w = idx) (hm : modField w = md) :
    decode ⟨w, a, b, insn, valid⟩ = decodeFields opc idx md ⟨w, a, b, insn, valid⟩ := by
  subst ho hi hm
  simp [decode, hz]

@[simp] theorem opcField_word (opc idx md : ByteField) : opcField (word opc idx md) = opc := by
  apply BitVec.eq_of_getLsbD_eq
  intro i hi
  simp only [opcField, word, BitVec.getLsbD_extractLsb', BitVec.getLsbD_append]
  have h1 : ¬(24 + i < 8) := by omega
  have h2 : ¬(24 + i - 8 < 8) := by omega
  have h3 : ¬(24 + i - 8 - 8 < 8) := by omega
  simp only [h1, h2, h3, hi, decide_true, Bool.true_and, if_false]
  congr 1
  omega

@[simp] theorem idxField_word (opc idx md : ByteField) : idxField (word opc idx md) = idx := by
  apply BitVec.eq_of_getLsbD_eq
  intro i hi
  simp only [idxField, word, BitVec.getLsbD_extractLsb', BitVec.getLsbD_append]
  have h1 : ¬(16 + i < 8) := by omega
  have h2 : ¬(16 + i - 8 < 8) := by omega
  have h3 : 16 + i - 8 - 8 < 8 := by omega
  simp only [h1, h2, h3, hi, decide_true, Bool.true_and, if_false, if_true]
  congr 1
  omega

@[simp] theorem modField_word (opc idx md : ByteField) : modField (word opc idx md) = md := by
  apply BitVec.eq_of_getLsbD_eq
  intro i hi
  simp only [modField, word, BitVec.getLsbD_extractLsb', BitVec.getLsbD_append]
  have h1 : ¬(8 + i < 8) := by omega
  have h2 : 8 + i - 8 < 8 := by omega
  simp only [h1, h2, hi, decide_true, Bool.true_and, if_false, if_true]
  congr 1
  omega

@[simp] theorem zeroField_word (opc idx md : ByteField) : zeroField (word opc idx md) = 0#8 := by
  apply BitVec.eq_of_getLsbD_eq
  intro i hi
  simp only [zeroField, word, BitVec.getLsbD_extractLsb', BitVec.getLsbD_append]
  have h1 : 0 + i < 8 := by omega
  simp only [h1, hi, decide_true, Bool.true_and, if_true]
  simp

/-- Decoding a word built from its fields. -/
theorem decode_word (opc idx md : ByteField) (a b : Word) (insn : Word32) (valid : Bool) :
    decode ⟨word opc idx md, a, b, insn, valid⟩ = decodeFields opc.toNat idx md ⟨word opc idx md, a, b, insn, valid⟩ :=
  decode_of_fields _ _ _ (by simp) (by simp) (by simp) (by simp)

end Sys2Proof
end

