-- ==== Sys2Proof/Laws/State.lean ====
section
/-! SUPPORT. One lemma per field per update of the state, true by `rfl`: what each named update of Machine/Ops.lean writes and
what it leaves unchanged. -/

namespace Sys2Proof.Machine

/-! ## `State.withReply` -/

@[simp] theorem State.withReply_cfg (r : Reply) (s : State) : (s.withReply r).cfg = s.cfg := rfl
@[simp] theorem State.withReply_x (r : Reply) (s : State) : (s.withReply r).x = s.x := rfl
@[simp] theorem State.withReply_f (r : Reply) (s : State) : (s.withReply r).f = s.f := rfl
@[simp] theorem State.withReply_sh (r : Reply) (s : State) : (s.withReply r).sh = s.sh := rfl
@[simp] theorem State.withReply_pc (r : Reply) (s : State) : (s.withReply r).pc = s.pc := rfl
@[simp] theorem State.withReply_pal (r : Reply) (s : State) : (s.withReply r).pal = s.pal := rfl
@[simp] theorem State.withReply_xlateCtx (r : Reply) (s : State) : (s.withReply r).xlateCtx = s.xlateCtx := rfl
@[simp] theorem State.withReply_asn (r : Reply) (s : State) : (s.withReply r).asn = s.asn := rfl
@[simp] theorem State.withReply_cm (r : Reply) (s : State) : (s.withReply r).cm = s.cm := rfl
@[simp] theorem State.withReply_ier (r : Reply) (s : State) : (s.withReply r).ier = s.ier := rfl
@[simp] theorem State.withReply_ipend (r : Reply) (s : State) : (s.withReply r).ipend = s.ipend := rfl
@[simp] theorem State.withReply_sirr (r : Reply) (s : State) : (s.withReply r).sirr = s.sirr := rfl
@[simp] theorem State.withReply_ivptb (r : Reply) (s : State) : (s.withReply r).ivptb = s.ivptb := rfl
@[simp] theorem State.withReply_dvptb (r : Reply) (s : State) : (s.withReply r).dvptb = s.dvptb := rfl
@[simp] theorem State.withReply_excAddr (r : Reply) (s : State) : (s.withReply r).excAddr = s.excAddr := rfl
@[simp] theorem State.withReply_excSum (r : Reply) (s : State) : (s.withReply r).excSum = s.excSum := rfl
@[simp] theorem State.withReply_mmStat (r : Reply) (s : State) : (s.withReply r).mmStat = s.mmStat := rfl
@[simp] theorem State.withReply_faultVa (r : Reply) (s : State) : (s.withReply r).faultVa = s.faultVa := rfl
@[simp] theorem State.withReply_palBase (r : Reply) (s : State) : (s.withReply r).palBase = s.palBase := rfl
@[simp] theorem State.withReply_ictl (r : Reply) (s : State) : (s.withReply r).ictl = s.ictl := rfl
@[simp] theorem State.withReply_dctl (r : Reply) (s : State) : (s.withReply r).dctl = s.dctl := rfl
@[simp] theorem State.withReply_itb (r : Reply) (s : State) : (s.withReply r).itb = s.itb := rfl
@[simp] theorem State.withReply_dtb (r : Reply) (s : State) : (s.withReply r).dtb = s.dtb := rfl
@[simp] theorem State.withReply_excCond (r : Reply) (s : State) : (s.withReply r).excCond = s.excCond := rfl
@[simp] theorem State.withReply_excAux (r : Reply) (s : State) : (s.withReply r).excAux = s.excAux := rfl
@[simp] theorem State.withReply_intrFlag (r : Reply) (s : State) : (s.withReply r).intrFlag = s.intrFlag := rfl
@[simp] theorem State.withReply_itbTag (r : Reply) (s : State) : (s.withReply r).itbTag = s.itbTag := rfl
@[simp] theorem State.withReply_dtbTag (r : Reply) (s : State) : (s.withReply r).dtbTag = s.dtbTag := rfl
@[simp] theorem State.withReply_inputs (r : Reply) (s : State) : (s.withReply r).inputs = s.inputs := rfl
@[simp] theorem State.withReply_reply (r : Reply) (s : State) : (s.withReply r).reply = some r := rfl
@[simp] theorem State.withReply_draws (r : Reply) (s : State) : (s.withReply r).draws = s.draws := rfl

/-! ## `State.setTlb` -/

@[simp] theorem State.setTlb_cfg (st : Stream) (t : Tlb) (s : State) : (s.setTlb st t).cfg = s.cfg := rfl
@[simp] theorem State.setTlb_x (st : Stream) (t : Tlb) (s : State) : (s.setTlb st t).x = s.x := rfl
@[simp] theorem State.setTlb_f (st : Stream) (t : Tlb) (s : State) : (s.setTlb st t).f = s.f := rfl
@[simp] theorem State.setTlb_sh (st : Stream) (t : Tlb) (s : State) : (s.setTlb st t).sh = s.sh := rfl
@[simp] theorem State.setTlb_pc (st : Stream) (t : Tlb) (s : State) : (s.setTlb st t).pc = s.pc := rfl
@[simp] theorem State.setTlb_pal (st : Stream) (t : Tlb) (s : State) : (s.setTlb st t).pal = s.pal := rfl
@[simp] theorem State.setTlb_xlateCtx (st : Stream) (t : Tlb) (s : State) : (s.setTlb st t).xlateCtx = s.xlateCtx := rfl
@[simp] theorem State.setTlb_asn (st : Stream) (t : Tlb) (s : State) : (s.setTlb st t).asn = s.asn := rfl
@[simp] theorem State.setTlb_cm (st : Stream) (t : Tlb) (s : State) : (s.setTlb st t).cm = s.cm := rfl
@[simp] theorem State.setTlb_ier (st : Stream) (t : Tlb) (s : State) : (s.setTlb st t).ier = s.ier := rfl
@[simp] theorem State.setTlb_ipend (st : Stream) (t : Tlb) (s : State) : (s.setTlb st t).ipend = s.ipend := rfl
@[simp] theorem State.setTlb_sirr (st : Stream) (t : Tlb) (s : State) : (s.setTlb st t).sirr = s.sirr := rfl
@[simp] theorem State.setTlb_ivptb (st : Stream) (t : Tlb) (s : State) : (s.setTlb st t).ivptb = s.ivptb := rfl
@[simp] theorem State.setTlb_dvptb (st : Stream) (t : Tlb) (s : State) : (s.setTlb st t).dvptb = s.dvptb := rfl
@[simp] theorem State.setTlb_excAddr (st : Stream) (t : Tlb) (s : State) : (s.setTlb st t).excAddr = s.excAddr := rfl
@[simp] theorem State.setTlb_excSum (st : Stream) (t : Tlb) (s : State) : (s.setTlb st t).excSum = s.excSum := rfl
@[simp] theorem State.setTlb_mmStat (st : Stream) (t : Tlb) (s : State) : (s.setTlb st t).mmStat = s.mmStat := rfl
@[simp] theorem State.setTlb_faultVa (st : Stream) (t : Tlb) (s : State) : (s.setTlb st t).faultVa = s.faultVa := rfl
@[simp] theorem State.setTlb_palBase (st : Stream) (t : Tlb) (s : State) : (s.setTlb st t).palBase = s.palBase := rfl
@[simp] theorem State.setTlb_ictl (st : Stream) (t : Tlb) (s : State) : (s.setTlb st t).ictl = s.ictl := rfl
@[simp] theorem State.setTlb_dctl (st : Stream) (t : Tlb) (s : State) : (s.setTlb st t).dctl = s.dctl := rfl
@[simp] theorem State.setTlb_itb (st : Stream) (t : Tlb) (s : State) : (s.setTlb st t).itb = if st = .i then t else s.itb := rfl
@[simp] theorem State.setTlb_dtb (st : Stream) (t : Tlb) (s : State) : (s.setTlb st t).dtb = if st = .d then t else s.dtb := rfl
@[simp] theorem State.setTlb_excCond (st : Stream) (t : Tlb) (s : State) : (s.setTlb st t).excCond = s.excCond := rfl
@[simp] theorem State.setTlb_excAux (st : Stream) (t : Tlb) (s : State) : (s.setTlb st t).excAux = s.excAux := rfl
@[simp] theorem State.setTlb_intrFlag (st : Stream) (t : Tlb) (s : State) : (s.setTlb st t).intrFlag = s.intrFlag := rfl
@[simp] theorem State.setTlb_itbTag (st : Stream) (t : Tlb) (s : State) : (s.setTlb st t).itbTag = s.itbTag := rfl
@[simp] theorem State.setTlb_dtbTag (st : Stream) (t : Tlb) (s : State) : (s.setTlb st t).dtbTag = s.dtbTag := rfl
@[simp] theorem State.setTlb_inputs (st : Stream) (t : Tlb) (s : State) : (s.setTlb st t).inputs = s.inputs := rfl
@[simp] theorem State.setTlb_reply (st : Stream) (t : Tlb) (s : State) : (s.setTlb st t).reply = s.reply := rfl
@[simp] theorem State.setTlb_draws (st : Stream) (t : Tlb) (s : State) : (s.setTlb st t).draws = s.draws := rfl

/-! ## `State.setX` -/

@[simp] theorem State.setX_cfg (xs : List Word) (s : State) : (s.setX xs).cfg = s.cfg := rfl
@[simp] theorem State.setX_x (xs : List Word) (s : State) : (s.setX xs).x = xs := rfl
@[simp] theorem State.setX_f (xs : List Word) (s : State) : (s.setX xs).f = s.f := rfl
@[simp] theorem State.setX_sh (xs : List Word) (s : State) : (s.setX xs).sh = s.sh := rfl
@[simp] theorem State.setX_pc (xs : List Word) (s : State) : (s.setX xs).pc = s.pc := rfl
@[simp] theorem State.setX_pal (xs : List Word) (s : State) : (s.setX xs).pal = s.pal := rfl
@[simp] theorem State.setX_xlateCtx (xs : List Word) (s : State) : (s.setX xs).xlateCtx = s.xlateCtx := rfl
@[simp] theorem State.setX_asn (xs : List Word) (s : State) : (s.setX xs).asn = s.asn := rfl
@[simp] theorem State.setX_cm (xs : List Word) (s : State) : (s.setX xs).cm = s.cm := rfl
@[simp] theorem State.setX_ier (xs : List Word) (s : State) : (s.setX xs).ier = s.ier := rfl
@[simp] theorem State.setX_ipend (xs : List Word) (s : State) : (s.setX xs).ipend = s.ipend := rfl
@[simp] theorem State.setX_sirr (xs : List Word) (s : State) : (s.setX xs).sirr = s.sirr := rfl
@[simp] theorem State.setX_ivptb (xs : List Word) (s : State) : (s.setX xs).ivptb = s.ivptb := rfl
@[simp] theorem State.setX_dvptb (xs : List Word) (s : State) : (s.setX xs).dvptb = s.dvptb := rfl
@[simp] theorem State.setX_excAddr (xs : List Word) (s : State) : (s.setX xs).excAddr = s.excAddr := rfl
@[simp] theorem State.setX_excSum (xs : List Word) (s : State) : (s.setX xs).excSum = s.excSum := rfl
@[simp] theorem State.setX_mmStat (xs : List Word) (s : State) : (s.setX xs).mmStat = s.mmStat := rfl
@[simp] theorem State.setX_faultVa (xs : List Word) (s : State) : (s.setX xs).faultVa = s.faultVa := rfl
@[simp] theorem State.setX_palBase (xs : List Word) (s : State) : (s.setX xs).palBase = s.palBase := rfl
@[simp] theorem State.setX_ictl (xs : List Word) (s : State) : (s.setX xs).ictl = s.ictl := rfl
@[simp] theorem State.setX_dctl (xs : List Word) (s : State) : (s.setX xs).dctl = s.dctl := rfl
@[simp] theorem State.setX_itb (xs : List Word) (s : State) : (s.setX xs).itb = s.itb := rfl
@[simp] theorem State.setX_dtb (xs : List Word) (s : State) : (s.setX xs).dtb = s.dtb := rfl
@[simp] theorem State.setX_excCond (xs : List Word) (s : State) : (s.setX xs).excCond = s.excCond := rfl
@[simp] theorem State.setX_excAux (xs : List Word) (s : State) : (s.setX xs).excAux = s.excAux := rfl
@[simp] theorem State.setX_intrFlag (xs : List Word) (s : State) : (s.setX xs).intrFlag = s.intrFlag := rfl
@[simp] theorem State.setX_itbTag (xs : List Word) (s : State) : (s.setX xs).itbTag = s.itbTag := rfl
@[simp] theorem State.setX_dtbTag (xs : List Word) (s : State) : (s.setX xs).dtbTag = s.dtbTag := rfl
@[simp] theorem State.setX_inputs (xs : List Word) (s : State) : (s.setX xs).inputs = s.inputs := rfl
@[simp] theorem State.setX_reply (xs : List Word) (s : State) : (s.setX xs).reply = s.reply := rfl
@[simp] theorem State.setX_draws (xs : List Word) (s : State) : (s.setX xs).draws = s.draws := rfl

/-! ## `State.writeX` -/

@[simp] theorem State.writeX_cfg (n : Nat) (v : Word) (s : State) : (s.writeX n v).cfg = s.cfg := rfl
@[simp] theorem State.writeX_x (n : Nat) (v : Word) (s : State) : (s.writeX n v).x = writeReg s.x n v := rfl
@[simp] theorem State.writeX_f (n : Nat) (v : Word) (s : State) : (s.writeX n v).f = s.f := rfl
@[simp] theorem State.writeX_sh (n : Nat) (v : Word) (s : State) : (s.writeX n v).sh = s.sh := rfl
@[simp] theorem State.writeX_pc (n : Nat) (v : Word) (s : State) : (s.writeX n v).pc = s.pc := rfl
@[simp] theorem State.writeX_pal (n : Nat) (v : Word) (s : State) : (s.writeX n v).pal = s.pal := rfl
@[simp] theorem State.writeX_xlateCtx (n : Nat) (v : Word) (s : State) : (s.writeX n v).xlateCtx = s.xlateCtx := rfl
@[simp] theorem State.writeX_asn (n : Nat) (v : Word) (s : State) : (s.writeX n v).asn = s.asn := rfl
@[simp] theorem State.writeX_cm (n : Nat) (v : Word) (s : State) : (s.writeX n v).cm = s.cm := rfl
@[simp] theorem State.writeX_ier (n : Nat) (v : Word) (s : State) : (s.writeX n v).ier = s.ier := rfl
@[simp] theorem State.writeX_ipend (n : Nat) (v : Word) (s : State) : (s.writeX n v).ipend = s.ipend := rfl
@[simp] theorem State.writeX_sirr (n : Nat) (v : Word) (s : State) : (s.writeX n v).sirr = s.sirr := rfl
@[simp] theorem State.writeX_ivptb (n : Nat) (v : Word) (s : State) : (s.writeX n v).ivptb = s.ivptb := rfl
@[simp] theorem State.writeX_dvptb (n : Nat) (v : Word) (s : State) : (s.writeX n v).dvptb = s.dvptb := rfl
@[simp] theorem State.writeX_excAddr (n : Nat) (v : Word) (s : State) : (s.writeX n v).excAddr = s.excAddr := rfl
@[simp] theorem State.writeX_excSum (n : Nat) (v : Word) (s : State) : (s.writeX n v).excSum = s.excSum := rfl
@[simp] theorem State.writeX_mmStat (n : Nat) (v : Word) (s : State) : (s.writeX n v).mmStat = s.mmStat := rfl
@[simp] theorem State.writeX_faultVa (n : Nat) (v : Word) (s : State) : (s.writeX n v).faultVa = s.faultVa := rfl
@[simp] theorem State.writeX_palBase (n : Nat) (v : Word) (s : State) : (s.writeX n v).palBase = s.palBase := rfl
@[simp] theorem State.writeX_ictl (n : Nat) (v : Word) (s : State) : (s.writeX n v).ictl = s.ictl := rfl
@[simp] theorem State.writeX_dctl (n : Nat) (v : Word) (s : State) : (s.writeX n v).dctl = s.dctl := rfl
@[simp] theorem State.writeX_itb (n : Nat) (v : Word) (s : State) : (s.writeX n v).itb = s.itb := rfl
@[simp] theorem State.writeX_dtb (n : Nat) (v : Word) (s : State) : (s.writeX n v).dtb = s.dtb := rfl
@[simp] theorem State.writeX_excCond (n : Nat) (v : Word) (s : State) : (s.writeX n v).excCond = s.excCond := rfl
@[simp] theorem State.writeX_excAux (n : Nat) (v : Word) (s : State) : (s.writeX n v).excAux = s.excAux := rfl
@[simp] theorem State.writeX_intrFlag (n : Nat) (v : Word) (s : State) : (s.writeX n v).intrFlag = s.intrFlag := rfl
@[simp] theorem State.writeX_itbTag (n : Nat) (v : Word) (s : State) : (s.writeX n v).itbTag = s.itbTag := rfl
@[simp] theorem State.writeX_dtbTag (n : Nat) (v : Word) (s : State) : (s.writeX n v).dtbTag = s.dtbTag := rfl
@[simp] theorem State.writeX_inputs (n : Nat) (v : Word) (s : State) : (s.writeX n v).inputs = s.inputs := rfl
@[simp] theorem State.writeX_reply (n : Nat) (v : Word) (s : State) : (s.writeX n v).reply = s.reply := rfl
@[simp] theorem State.writeX_draws (n : Nat) (v : Word) (s : State) : (s.writeX n v).draws = s.draws := rfl

/-! ## `State.setBanks` -/

@[simp] theorem State.setBanks_cfg (b : List Word × List Word) (s : State) : (s.setBanks b).cfg = s.cfg := rfl
@[simp] theorem State.setBanks_x (b : List Word × List Word) (s : State) : (s.setBanks b).x = b.1 := rfl
@[simp] theorem State.setBanks_f (b : List Word × List Word) (s : State) : (s.setBanks b).f = s.f := rfl
@[simp] theorem State.setBanks_sh (b : List Word × List Word) (s : State) : (s.setBanks b).sh = b.2 := rfl
@[simp] theorem State.setBanks_pc (b : List Word × List Word) (s : State) : (s.setBanks b).pc = s.pc := rfl
@[simp] theorem State.setBanks_pal (b : List Word × List Word) (s : State) : (s.setBanks b).pal = s.pal := rfl
@[simp] theorem State.setBanks_xlateCtx (b : List Word × List Word) (s : State) : (s.setBanks b).xlateCtx = s.xlateCtx := rfl
@[simp] theorem State.setBanks_asn (b : List Word × List Word) (s : State) : (s.setBanks b).asn = s.asn := rfl
@[simp] theorem State.setBanks_cm (b : List Word × List Word) (s : State) : (s.setBanks b).cm = s.cm := rfl
@[simp] theorem State.setBanks_ier (b : List Word × List Word) (s : State) : (s.setBanks b).ier = s.ier := rfl
@[simp] theorem State.setBanks_ipend (b : List Word × List Word) (s : State) : (s.setBanks b).ipend = s.ipend := rfl
@[simp] theorem State.setBanks_sirr (b : List Word × List Word) (s : State) : (s.setBanks b).sirr = s.sirr := rfl
@[simp] theorem State.setBanks_ivptb (b : List Word × List Word) (s : State) : (s.setBanks b).ivptb = s.ivptb := rfl
@[simp] theorem State.setBanks_dvptb (b : List Word × List Word) (s : State) : (s.setBanks b).dvptb = s.dvptb := rfl
@[simp] theorem State.setBanks_excAddr (b : List Word × List Word) (s : State) : (s.setBanks b).excAddr = s.excAddr := rfl
@[simp] theorem State.setBanks_excSum (b : List Word × List Word) (s : State) : (s.setBanks b).excSum = s.excSum := rfl
@[simp] theorem State.setBanks_mmStat (b : List Word × List Word) (s : State) : (s.setBanks b).mmStat = s.mmStat := rfl
@[simp] theorem State.setBanks_faultVa (b : List Word × List Word) (s : State) : (s.setBanks b).faultVa = s.faultVa := rfl
@[simp] theorem State.setBanks_palBase (b : List Word × List Word) (s : State) : (s.setBanks b).palBase = s.palBase := rfl
@[simp] theorem State.setBanks_ictl (b : List Word × List Word) (s : State) : (s.setBanks b).ictl = s.ictl := rfl
@[simp] theorem State.setBanks_dctl (b : List Word × List Word) (s : State) : (s.setBanks b).dctl = s.dctl := rfl
@[simp] theorem State.setBanks_itb (b : List Word × List Word) (s : State) : (s.setBanks b).itb = s.itb := rfl
@[simp] theorem State.setBanks_dtb (b : List Word × List Word) (s : State) : (s.setBanks b).dtb = s.dtb := rfl
@[simp] theorem State.setBanks_excCond (b : List Word × List Word) (s : State) : (s.setBanks b).excCond = s.excCond := rfl
@[simp] theorem State.setBanks_excAux (b : List Word × List Word) (s : State) : (s.setBanks b).excAux = s.excAux := rfl
@[simp] theorem State.setBanks_intrFlag (b : List Word × List Word) (s : State) : (s.setBanks b).intrFlag = s.intrFlag := rfl
@[simp] theorem State.setBanks_itbTag (b : List Word × List Word) (s : State) : (s.setBanks b).itbTag = s.itbTag := rfl
@[simp] theorem State.setBanks_dtbTag (b : List Word × List Word) (s : State) : (s.setBanks b).dtbTag = s.dtbTag := rfl
@[simp] theorem State.setBanks_inputs (b : List Word × List Word) (s : State) : (s.setBanks b).inputs = s.inputs := rfl
@[simp] theorem State.setBanks_reply (b : List Word × List Word) (s : State) : (s.setBanks b).reply = s.reply := rfl
@[simp] theorem State.setBanks_draws (b : List Word × List Word) (s : State) : (s.setBanks b).draws = s.draws := rfl

/-! ## `State.swapShadow` -/

@[simp] theorem State.swapShadow_cfg (s : State) : (s.swapShadow).cfg = s.cfg := rfl
@[simp] theorem State.swapShadow_x (s : State) : (s.swapShadow).x = (swapBanks s.cfg.shadowSet 0 (s.x, s.sh)).1 := rfl
@[simp] theorem State.swapShadow_f (s : State) : (s.swapShadow).f = s.f := rfl
@[simp] theorem State.swapShadow_sh (s : State) : (s.swapShadow).sh = (swapBanks s.cfg.shadowSet 0 (s.x, s.sh)).2 := rfl
@[simp] theorem State.swapShadow_pc (s : State) : (s.swapShadow).pc = s.pc := rfl
@[simp] theorem State.swapShadow_pal (s : State) : (s.swapShadow).pal = s.pal := rfl
@[simp] theorem State.swapShadow_xlateCtx (s : State) : (s.swapShadow).xlateCtx = s.xlateCtx := rfl
@[simp] theorem State.swapShadow_asn (s : State) : (s.swapShadow).asn = s.asn := rfl
@[simp] theorem State.swapShadow_cm (s : State) : (s.swapShadow).cm = s.cm := rfl
@[simp] theorem State.swapShadow_ier (s : State) : (s.swapShadow).ier = s.ier := rfl
@[simp] theorem State.swapShadow_ipend (s : State) : (s.swapShadow).ipend = s.ipend := rfl
@[simp] theorem State.swapShadow_sirr (s : State) : (s.swapShadow).sirr = s.sirr := rfl
@[simp] theorem State.swapShadow_ivptb (s : State) : (s.swapShadow).ivptb = s.ivptb := rfl
@[simp] theorem State.swapShadow_dvptb (s : State) : (s.swapShadow).dvptb = s.dvptb := rfl
@[simp] theorem State.swapShadow_excAddr (s : State) : (s.swapShadow).excAddr = s.excAddr := rfl
@[simp] theorem State.swapShadow_excSum (s : State) : (s.swapShadow).excSum = s.excSum := rfl
@[simp] theorem State.swapShadow_mmStat (s : State) : (s.swapShadow).mmStat = s.mmStat := rfl
@[simp] theorem State.swapShadow_faultVa (s : State) : (s.swapShadow).faultVa = s.faultVa := rfl
@[simp] theorem State.swapShadow_palBase (s : State) : (s.swapShadow).palBase = s.palBase := rfl
@[simp] theorem State.swapShadow_ictl (s : State) : (s.swapShadow).ictl = s.ictl := rfl
@[simp] theorem State.swapShadow_dctl (s : State) : (s.swapShadow).dctl = s.dctl := rfl
@[simp] theorem State.swapShadow_itb (s : State) : (s.swapShadow).itb = s.itb := rfl
@[simp] theorem State.swapShadow_dtb (s : State) : (s.swapShadow).dtb = s.dtb := rfl
@[simp] theorem State.swapShadow_excCond (s : State) : (s.swapShadow).excCond = s.excCond := rfl
@[simp] theorem State.swapShadow_excAux (s : State) : (s.swapShadow).excAux = s.excAux := rfl
@[simp] theorem State.swapShadow_intrFlag (s : State) : (s.swapShadow).intrFlag = s.intrFlag := rfl
@[simp] theorem State.swapShadow_itbTag (s : State) : (s.swapShadow).itbTag = s.itbTag := rfl
@[simp] theorem State.swapShadow_dtbTag (s : State) : (s.swapShadow).dtbTag = s.dtbTag := rfl
@[simp] theorem State.swapShadow_inputs (s : State) : (s.swapShadow).inputs = s.inputs := rfl
@[simp] theorem State.swapShadow_reply (s : State) : (s.swapShadow).reply = s.reply := rfl
@[simp] theorem State.swapShadow_draws (s : State) : (s.swapShadow).draws = s.draws := rfl

/-! ## `State.withCondition` -/

@[simp] theorem State.withCondition_cfg (c : Condition) (aux : Word) (s : State) : (s.withCondition c aux).cfg = s.cfg := rfl
@[simp] theorem State.withCondition_x (c : Condition) (aux : Word) (s : State) : (s.withCondition c aux).x = s.x := rfl
@[simp] theorem State.withCondition_f (c : Condition) (aux : Word) (s : State) : (s.withCondition c aux).f = s.f := rfl
@[simp] theorem State.withCondition_sh (c : Condition) (aux : Word) (s : State) : (s.withCondition c aux).sh = s.sh := rfl
@[simp] theorem State.withCondition_pc (c : Condition) (aux : Word) (s : State) : (s.withCondition c aux).pc = s.pc := rfl
@[simp] theorem State.withCondition_pal (c : Condition) (aux : Word) (s : State) : (s.withCondition c aux).pal = s.pal := rfl
@[simp] theorem State.withCondition_xlateCtx (c : Condition) (aux : Word) (s : State) : (s.withCondition c aux).xlateCtx = s.xlateCtx := rfl
@[simp] theorem State.withCondition_asn (c : Condition) (aux : Word) (s : State) : (s.withCondition c aux).asn = s.asn := rfl
@[simp] theorem State.withCondition_cm (c : Condition) (aux : Word) (s : State) : (s.withCondition c aux).cm = s.cm := rfl
@[simp] theorem State.withCondition_ier (c : Condition) (aux : Word) (s : State) : (s.withCondition c aux).ier = s.ier := rfl
@[simp] theorem State.withCondition_ipend (c : Condition) (aux : Word) (s : State) : (s.withCondition c aux).ipend = s.ipend := rfl
@[simp] theorem State.withCondition_sirr (c : Condition) (aux : Word) (s : State) : (s.withCondition c aux).sirr = s.sirr := rfl
@[simp] theorem State.withCondition_ivptb (c : Condition) (aux : Word) (s : State) : (s.withCondition c aux).ivptb = s.ivptb := rfl
@[simp] theorem State.withCondition_dvptb (c : Condition) (aux : Word) (s : State) : (s.withCondition c aux).dvptb = s.dvptb := rfl
@[simp] theorem State.withCondition_excAddr (c : Condition) (aux : Word) (s : State) : (s.withCondition c aux).excAddr = s.excAddr := rfl
@[simp] theorem State.withCondition_excSum (c : Condition) (aux : Word) (s : State) : (s.withCondition c aux).excSum = if c = .generic .arith then aux else s.excSum := rfl
@[simp] theorem State.withCondition_mmStat (c : Condition) (aux : Word) (s : State) : (s.withCondition c aux).mmStat = s.mmStat := rfl
@[simp] theorem State.withCondition_faultVa (c : Condition) (aux : Word) (s : State) : (s.withCondition c aux).faultVa = s.faultVa := rfl
@[simp] theorem State.withCondition_palBase (c : Condition) (aux : Word) (s : State) : (s.withCondition c aux).palBase = s.palBase := rfl
@[simp] theorem State.withCondition_ictl (c : Condition) (aux : Word) (s : State) : (s.withCondition c aux).ictl = s.ictl := rfl
@[simp] theorem State.withCondition_dctl (c : Condition) (aux : Word) (s : State) : (s.withCondition c aux).dctl = s.dctl := rfl
@[simp] theorem State.withCondition_itb (c : Condition) (aux : Word) (s : State) : (s.withCondition c aux).itb = s.itb := rfl
@[simp] theorem State.withCondition_dtb (c : Condition) (aux : Word) (s : State) : (s.withCondition c aux).dtb = s.dtb := rfl
@[simp] theorem State.withCondition_excCond (c : Condition) (aux : Word) (s : State) : (s.withCondition c aux).excCond = some c := rfl
@[simp] theorem State.withCondition_excAux (c : Condition) (aux : Word) (s : State) : (s.withCondition c aux).excAux = aux := rfl
@[simp] theorem State.withCondition_intrFlag (c : Condition) (aux : Word) (s : State) : (s.withCondition c aux).intrFlag = s.intrFlag := rfl
@[simp] theorem State.withCondition_itbTag (c : Condition) (aux : Word) (s : State) : (s.withCondition c aux).itbTag = s.itbTag := rfl
@[simp] theorem State.withCondition_dtbTag (c : Condition) (aux : Word) (s : State) : (s.withCondition c aux).dtbTag = s.dtbTag := rfl
@[simp] theorem State.withCondition_inputs (c : Condition) (aux : Word) (s : State) : (s.withCondition c aux).inputs = s.inputs := rfl
@[simp] theorem State.withCondition_reply (c : Condition) (aux : Word) (s : State) : (s.withCondition c aux).reply = s.reply := rfl
@[simp] theorem State.withCondition_draws (c : Condition) (aux : Word) (s : State) : (s.withCondition c aux).draws = s.draws := rfl

/-! ## `State.setMode` -/

@[simp] theorem State.setMode_cfg (pc : Word) (pal : Bool) (s : State) : (s.setMode pc pal).cfg = s.cfg := rfl
@[simp] theorem State.setMode_x (pc : Word) (pal : Bool) (s : State) : (s.setMode pc pal).x = s.x := rfl
@[simp] theorem State.setMode_f (pc : Word) (pal : Bool) (s : State) : (s.setMode pc pal).f = s.f := rfl
@[simp] theorem State.setMode_sh (pc : Word) (pal : Bool) (s : State) : (s.setMode pc pal).sh = s.sh := rfl
@[simp] theorem State.setMode_pc (pc : Word) (pal : Bool) (s : State) : (s.setMode pc pal).pc = pc := rfl
@[simp] theorem State.setMode_pal (pc : Word) (pal : Bool) (s : State) : (s.setMode pc pal).pal = pal := rfl
@[simp] theorem State.setMode_xlateCtx (pc : Word) (pal : Bool) (s : State) : (s.setMode pc pal).xlateCtx = if pal then .pal else .normal := rfl
@[simp] theorem State.setMode_asn (pc : Word) (pal : Bool) (s : State) : (s.setMode pc pal).asn = s.asn := rfl
@[simp] theorem State.setMode_cm (pc : Word) (pal : Bool) (s : State) : (s.setMode pc pal).cm = s.cm := rfl
@[simp] theorem State.setMode_ier (pc : Word) (pal : Bool) (s : State) : (s.setMode pc pal).ier = s.ier := rfl
@[simp] theorem State.setMode_ipend (pc : Word) (pal : Bool) (s : State) : (s.setMode pc pal).ipend = s.ipend := rfl
@[simp] theorem State.setMode_sirr (pc : Word) (pal : Bool) (s : State) : (s.setMode pc pal).sirr = s.sirr := rfl
@[simp] theorem State.setMode_ivptb (pc : Word) (pal : Bool) (s : State) : (s.setMode pc pal).ivptb = s.ivptb := rfl
@[simp] theorem State.setMode_dvptb (pc : Word) (pal : Bool) (s : State) : (s.setMode pc pal).dvptb = s.dvptb := rfl
@[simp] theorem State.setMode_excAddr (pc : Word) (pal : Bool) (s : State) : (s.setMode pc pal).excAddr = s.excAddr := rfl
@[simp] theorem State.setMode_excSum (pc : Word) (pal : Bool) (s : State) : (s.setMode pc pal).excSum = s.excSum := rfl
@[simp] theorem State.setMode_mmStat (pc : Word) (pal : Bool) (s : State) : (s.setMode pc pal).mmStat = s.mmStat := rfl
@[simp] theorem State.setMode_faultVa (pc : Word) (pal : Bool) (s : State) : (s.setMode pc pal).faultVa = s.faultVa := rfl
@[simp] theorem State.setMode_palBase (pc : Word) (pal : Bool) (s : State) : (s.setMode pc pal).palBase = s.palBase := rfl
@[simp] theorem State.setMode_ictl (pc : Word) (pal : Bool) (s : State) : (s.setMode pc pal).ictl = s.ictl := rfl
@[simp] theorem State.setMode_dctl (pc : Word) (pal : Bool) (s : State) : (s.setMode pc pal).dctl = s.dctl := rfl
@[simp] theorem State.setMode_itb (pc : Word) (pal : Bool) (s : State) : (s.setMode pc pal).itb = s.itb := rfl
@[simp] theorem State.setMode_dtb (pc : Word) (pal : Bool) (s : State) : (s.setMode pc pal).dtb = s.dtb := rfl
@[simp] theorem State.setMode_excCond (pc : Word) (pal : Bool) (s : State) : (s.setMode pc pal).excCond = s.excCond := rfl
@[simp] theorem State.setMode_excAux (pc : Word) (pal : Bool) (s : State) : (s.setMode pc pal).excAux = s.excAux := rfl
@[simp] theorem State.setMode_intrFlag (pc : Word) (pal : Bool) (s : State) : (s.setMode pc pal).intrFlag = s.intrFlag := rfl
@[simp] theorem State.setMode_itbTag (pc : Word) (pal : Bool) (s : State) : (s.setMode pc pal).itbTag = s.itbTag := rfl
@[simp] theorem State.setMode_dtbTag (pc : Word) (pal : Bool) (s : State) : (s.setMode pc pal).dtbTag = s.dtbTag := rfl
@[simp] theorem State.setMode_inputs (pc : Word) (pal : Bool) (s : State) : (s.setMode pc pal).inputs = s.inputs := rfl
@[simp] theorem State.setMode_reply (pc : Word) (pal : Bool) (s : State) : (s.setMode pc pal).reply = s.reply := rfl
@[simp] theorem State.setMode_draws (pc : Word) (pal : Bool) (s : State) : (s.setMode pc pal).draws = s.draws := rfl

/-! ## `State.setExcAddr` -/

@[simp] theorem State.setExcAddr_cfg (v : Word) (s : State) : (s.setExcAddr v).cfg = s.cfg := rfl
@[simp] theorem State.setExcAddr_x (v : Word) (s : State) : (s.setExcAddr v).x = s.x := rfl
@[simp] theorem State.setExcAddr_f (v : Word) (s : State) : (s.setExcAddr v).f = s.f := rfl
@[simp] theorem State.setExcAddr_sh (v : Word) (s : State) : (s.setExcAddr v).sh = s.sh := rfl
@[simp] theorem State.setExcAddr_pc (v : Word) (s : State) : (s.setExcAddr v).pc = s.pc := rfl
@[simp] theorem State.setExcAddr_pal (v : Word) (s : State) : (s.setExcAddr v).pal = s.pal := rfl
@[simp] theorem State.setExcAddr_xlateCtx (v : Word) (s : State) : (s.setExcAddr v).xlateCtx = s.xlateCtx := rfl
@[simp] theorem State.setExcAddr_asn (v : Word) (s : State) : (s.setExcAddr v).asn = s.asn := rfl
@[simp] theorem State.setExcAddr_cm (v : Word) (s : State) : (s.setExcAddr v).cm = s.cm := rfl
@[simp] theorem State.setExcAddr_ier (v : Word) (s : State) : (s.setExcAddr v).ier = s.ier := rfl
@[simp] theorem State.setExcAddr_ipend (v : Word) (s : State) : (s.setExcAddr v).ipend = s.ipend := rfl
@[simp] theorem State.setExcAddr_sirr (v : Word) (s : State) : (s.setExcAddr v).sirr = s.sirr := rfl
@[simp] theorem State.setExcAddr_ivptb (v : Word) (s : State) : (s.setExcAddr v).ivptb = s.ivptb := rfl
@[simp] theorem State.setExcAddr_dvptb (v : Word) (s : State) : (s.setExcAddr v).dvptb = s.dvptb := rfl
@[simp] theorem State.setExcAddr_excAddr (v : Word) (s : State) : (s.setExcAddr v).excAddr = v := rfl
@[simp] theorem State.setExcAddr_excSum (v : Word) (s : State) : (s.setExcAddr v).excSum = s.excSum := rfl
@[simp] theorem State.setExcAddr_mmStat (v : Word) (s : State) : (s.setExcAddr v).mmStat = s.mmStat := rfl
@[simp] theorem State.setExcAddr_faultVa (v : Word) (s : State) : (s.setExcAddr v).faultVa = s.faultVa := rfl
@[simp] theorem State.setExcAddr_palBase (v : Word) (s : State) : (s.setExcAddr v).palBase = s.palBase := rfl
@[simp] theorem State.setExcAddr_ictl (v : Word) (s : State) : (s.setExcAddr v).ictl = s.ictl := rfl
@[simp] theorem State.setExcAddr_dctl (v : Word) (s : State) : (s.setExcAddr v).dctl = s.dctl := rfl
@[simp] theorem State.setExcAddr_itb (v : Word) (s : State) : (s.setExcAddr v).itb = s.itb := rfl
@[simp] theorem State.setExcAddr_dtb (v : Word) (s : State) : (s.setExcAddr v).dtb = s.dtb := rfl
@[simp] theorem State.setExcAddr_excCond (v : Word) (s : State) : (s.setExcAddr v).excCond = s.excCond := rfl
@[simp] theorem State.setExcAddr_excAux (v : Word) (s : State) : (s.setExcAddr v).excAux = s.excAux := rfl
@[simp] theorem State.setExcAddr_intrFlag (v : Word) (s : State) : (s.setExcAddr v).intrFlag = s.intrFlag := rfl
@[simp] theorem State.setExcAddr_itbTag (v : Word) (s : State) : (s.setExcAddr v).itbTag = s.itbTag := rfl
@[simp] theorem State.setExcAddr_dtbTag (v : Word) (s : State) : (s.setExcAddr v).dtbTag = s.dtbTag := rfl
@[simp] theorem State.setExcAddr_inputs (v : Word) (s : State) : (s.setExcAddr v).inputs = s.inputs := rfl
@[simp] theorem State.setExcAddr_reply (v : Word) (s : State) : (s.setExcAddr v).reply = s.reply := rfl
@[simp] theorem State.setExcAddr_draws (v : Word) (s : State) : (s.setExcAddr v).draws = s.draws := rfl

/-! ## `State.clearCondition` -/

@[simp] theorem State.clearCondition_cfg (s : State) : (s.clearCondition).cfg = s.cfg := rfl
@[simp] theorem State.clearCondition_x (s : State) : (s.clearCondition).x = s.x := rfl
@[simp] theorem State.clearCondition_f (s : State) : (s.clearCondition).f = s.f := rfl
@[simp] theorem State.clearCondition_sh (s : State) : (s.clearCondition).sh = s.sh := rfl
@[simp] theorem State.clearCondition_pc (s : State) : (s.clearCondition).pc = s.pc := rfl
@[simp] theorem State.clearCondition_pal (s : State) : (s.clearCondition).pal = s.pal := rfl
@[simp] theorem State.clearCondition_xlateCtx (s : State) : (s.clearCondition).xlateCtx = s.xlateCtx := rfl
@[simp] theorem State.clearCondition_asn (s : State) : (s.clearCondition).asn = s.asn := rfl
@[simp] theorem State.clearCondition_cm (s : State) : (s.clearCondition).cm = s.cm := rfl
@[simp] theorem State.clearCondition_ier (s : State) : (s.clearCondition).ier = s.ier := rfl
@[simp] theorem State.clearCondition_ipend (s : State) : (s.clearCondition).ipend = s.ipend := rfl
@[simp] theorem State.clearCondition_sirr (s : State) : (s.clearCondition).sirr = s.sirr := rfl
@[simp] theorem State.clearCondition_ivptb (s : State) : (s.clearCondition).ivptb = s.ivptb := rfl
@[simp] theorem State.clearCondition_dvptb (s : State) : (s.clearCondition).dvptb = s.dvptb := rfl
@[simp] theorem State.clearCondition_excAddr (s : State) : (s.clearCondition).excAddr = s.excAddr := rfl
@[simp] theorem State.clearCondition_excSum (s : State) : (s.clearCondition).excSum = s.excSum := rfl
@[simp] theorem State.clearCondition_mmStat (s : State) : (s.clearCondition).mmStat = s.mmStat := rfl
@[simp] theorem State.clearCondition_faultVa (s : State) : (s.clearCondition).faultVa = s.faultVa := rfl
@[simp] theorem State.clearCondition_palBase (s : State) : (s.clearCondition).palBase = s.palBase := rfl
@[simp] theorem State.clearCondition_ictl (s : State) : (s.clearCondition).ictl = s.ictl := rfl
@[simp] theorem State.clearCondition_dctl (s : State) : (s.clearCondition).dctl = s.dctl := rfl
@[simp] theorem State.clearCondition_itb (s : State) : (s.clearCondition).itb = s.itb := rfl
@[simp] theorem State.clearCondition_dtb (s : State) : (s.clearCondition).dtb = s.dtb := rfl
@[simp] theorem State.clearCondition_excCond (s : State) : (s.clearCondition).excCond = none := rfl
@[simp] theorem State.clearCondition_excAux (s : State) : (s.clearCondition).excAux = 0 := rfl
@[simp] theorem State.clearCondition_intrFlag (s : State) : (s.clearCondition).intrFlag = s.intrFlag := rfl
@[simp] theorem State.clearCondition_itbTag (s : State) : (s.clearCondition).itbTag = s.itbTag := rfl
@[simp] theorem State.clearCondition_dtbTag (s : State) : (s.clearCondition).dtbTag = s.dtbTag := rfl
@[simp] theorem State.clearCondition_inputs (s : State) : (s.clearCondition).inputs = s.inputs := rfl
@[simp] theorem State.clearCondition_reply (s : State) : (s.clearCondition).reply = s.reply := rfl
@[simp] theorem State.clearCondition_draws (s : State) : (s.clearCondition).draws = s.draws := rfl

/-! ## `State.redirect` -/

@[simp] theorem State.redirect_cfg (target : Word) (s : State) : (s.redirect target).cfg = s.cfg := rfl
@[simp] theorem State.redirect_x (target : Word) (s : State) : (s.redirect target).x = s.x := rfl
@[simp] theorem State.redirect_f (target : Word) (s : State) : (s.redirect target).f = s.f := rfl
@[simp] theorem State.redirect_sh (target : Word) (s : State) : (s.redirect target).sh = s.sh := rfl
@[simp] theorem State.redirect_pc (target : Word) (s : State) : (s.redirect target).pc = s.entryPoint s.cfg.vecInterrupt := rfl
@[simp] theorem State.redirect_pal (target : Word) (s : State) : (s.redirect target).pal = s.pal := rfl
@[simp] theorem State.redirect_xlateCtx (target : Word) (s : State) : (s.redirect target).xlateCtx = s.xlateCtx := rfl
@[simp] theorem State.redirect_asn (target : Word) (s : State) : (s.redirect target).asn = s.asn := rfl
@[simp] theorem State.redirect_cm (target : Word) (s : State) : (s.redirect target).cm = s.cm := rfl
@[simp] theorem State.redirect_ier (target : Word) (s : State) : (s.redirect target).ier = s.ier := rfl
@[simp] theorem State.redirect_ipend (target : Word) (s : State) : (s.redirect target).ipend = s.ipend := rfl
@[simp] theorem State.redirect_sirr (target : Word) (s : State) : (s.redirect target).sirr = s.sirr := rfl
@[simp] theorem State.redirect_ivptb (target : Word) (s : State) : (s.redirect target).ivptb = s.ivptb := rfl
@[simp] theorem State.redirect_dvptb (target : Word) (s : State) : (s.redirect target).dvptb = s.dvptb := rfl
@[simp] theorem State.redirect_excAddr (target : Word) (s : State) : (s.redirect target).excAddr = target := rfl
@[simp] theorem State.redirect_excSum (target : Word) (s : State) : (s.redirect target).excSum = s.excSum := rfl
@[simp] theorem State.redirect_mmStat (target : Word) (s : State) : (s.redirect target).mmStat = s.mmStat := rfl
@[simp] theorem State.redirect_faultVa (target : Word) (s : State) : (s.redirect target).faultVa = s.faultVa := rfl
@[simp] theorem State.redirect_palBase (target : Word) (s : State) : (s.redirect target).palBase = s.palBase := rfl
@[simp] theorem State.redirect_ictl (target : Word) (s : State) : (s.redirect target).ictl = s.ictl := rfl
@[simp] theorem State.redirect_dctl (target : Word) (s : State) : (s.redirect target).dctl = s.dctl := rfl
@[simp] theorem State.redirect_itb (target : Word) (s : State) : (s.redirect target).itb = s.itb := rfl
@[simp] theorem State.redirect_dtb (target : Word) (s : State) : (s.redirect target).dtb = s.dtb := rfl
@[simp] theorem State.redirect_excCond (target : Word) (s : State) : (s.redirect target).excCond = s.excCond := rfl
@[simp] theorem State.redirect_excAux (target : Word) (s : State) : (s.redirect target).excAux = s.excAux := rfl
@[simp] theorem State.redirect_intrFlag (target : Word) (s : State) : (s.redirect target).intrFlag = s.intrFlag := rfl
@[simp] theorem State.redirect_itbTag (target : Word) (s : State) : (s.redirect target).itbTag = s.itbTag := rfl
@[simp] theorem State.redirect_dtbTag (target : Word) (s : State) : (s.redirect target).dtbTag = s.dtbTag := rfl
@[simp] theorem State.redirect_inputs (target : Word) (s : State) : (s.redirect target).inputs = s.inputs := rfl
@[simp] theorem State.redirect_reply (target : Word) (s : State) : (s.redirect target).reply = s.reply := rfl
@[simp] theorem State.redirect_draws (target : Word) (s : State) : (s.redirect target).draws = s.draws := rfl

/-! ## `State.tlb` -/

@[simp] theorem State.tlb_setTlb_self (st : Stream) (t : Tlb) (s : State) : (s.setTlb st t).tlb st = t := by
  cases st <;> rfl

theorem State.tlb_setTlb_other {st st' : Stream} (h : st' ≠ st) (t : Tlb) (s : State) :
    (s.setTlb st t).tlb st' = s.tlb st' := by
  cases st <;> cases st' <;> first | rfl | exact absurd rfl h

@[simp] theorem State.tlb_withReply (st : Stream) (r : Reply) (s : State) : (s.withReply r).tlb st = s.tlb st := by
  cases st <;> rfl

end Sys2Proof.Machine
end

