-- ==== Sys2Proof/Laws/Words.lean ====
section
/-! SUPPORT. Bits of the word helpers of Machine/Operands.lean. -/

namespace Sys2Proof.Machine

/-- The bits of a mask: the `n` low ones (R9). -/
@[simp] theorem getLsbD_lowMask (n i : Nat) : (lowMask n).getLsbD i = (decide (i < n) && decide (i < 64)) := by
  have hv : ∀ k : Nat, k ≤ 64 → (lowMask k).toNat = 2 ^ k - 1 := by
    intro k hk
    have hp : 2 ^ k ≤ 2 ^ 64 := Nat.pow_le_pow_right (by decide) hk
    have h1 : 1 ≤ 2 ^ k := Nat.one_le_two_pow
    simp only [lowMask, BitVec.toNat_sub, BitVec.toNat_shiftLeft, BitVec.toNat_ofNat, Nat.shiftLeft_eq]
    rcases Nat.lt_or_eq_of_le hp with h | h
    · have e1 : 1 % 2 ^ 64 * 2 ^ k % 2 ^ 64 = 2 ^ k := by
        rw [Nat.mod_eq_of_lt (by decide : 1 < 2 ^ 64), Nat.one_mul, Nat.mod_eq_of_lt h]
      rw [e1]
      omega
    · rw [h]
      decide
  by_cases hn : n ≤ 64
  · simp only [BitVec.getLsbD, hv n hn, Nat.testBit_two_pow_sub_one]
    by_cases h : i < n
    · have : i < 64 := by omega
      simp [h, this]
    · simp [h]
  · have hm : lowMask n = lowMask 64 := by
      have : (1#64 <<< n) = 0#64 := by
        ext j hj
        simp
        omega
      rw [lowMask, this]
      decide
    rw [hm]
    simp only [BitVec.getLsbD, hv 64 (Nat.le_refl _), Nat.testBit_two_pow_sub_one]
    by_cases h : i < 64
    · have : i < n := by omega
      simp [h, this]
    · simp [h]

@[simp] theorem getElem_lowMask (n i : Nat) (h : i < 64) : (lowMask n)[i] = decide (i < n) := by
  rw [← BitVec.getLsbD_eq_getElem, getLsbD_lowMask]
  simp [h]

/-- A masked value has no bit at or above the mask's width. -/
@[simp] theorem and_lowMask_above (v : Word) (n : Nat) : v &&& lowMask n &&& ~~~(lowMask n) = 0#64 := by
  ext i hi
  simp

/-- The bits of a sign extension: below the width the operand's, from there on the operand's bit `n - 1` (R9). -/
theorem getLsbD_sext {n : Nat} (hn : 0 < n) (v : Word) {i : Nat} (hi : i < 64) :
    (sext n v).getLsbD i = if i < n then v.getLsbD i else v.getLsbD (n - 1) := by
  rw [sext, BitVec.getLsbD_signExtend]
  by_cases h : i < n
  · simp [hi, h]
  · have hm : (v.setWidth n).msb = v.getLsbD (n - 1) := by
      simp [BitVec.msb_eq_getLsbD_last, hn]
    simp [hi, h, hm]

end Sys2Proof.Machine
end

