-- ==== Sys2Proof/Laws/Ops.lean ====
section
/-! SUPPORT. What each shared operation of Machine/Ops.lean can do, said once. -/

namespace Sys2Proof.Machine

/-! ## The register file (R21) -/

@[simp] theorem readReg_zero_register (xs : List Word) : readReg xs 31 = 0#64 := rfl

@[simp] theorem writeReg_zero_register (xs : List Word) (v : Word) : writeReg xs 31 v = xs := rfl

@[simp] theorem length_writeReg (xs : List Word) (n : Nat) (v : Word) : (writeReg xs n v).length = xs.length := by
  unfold writeReg
  split <;> simp

/-- A read after a write to the same register gives the value written. -/
theorem readReg_writeReg_self {xs : List Word} {n : Nat} (h : n < xs.length) (hn : n ≠ 31) (v : Word) :
    readReg (writeReg xs n v) n = v := by
  simp [readReg, writeReg, hn, h]

/-- A write leaves every other register alone. -/
theorem readReg_writeReg_other {xs : List Word} {n m : Nat} (h : m ≠ n) (v : Word) :
    readReg (writeReg xs n v) m = readReg xs m := by
  unfold readReg writeReg
  split
  · rfl
  · split
    · rfl
    · simp [List.getElem?_set_ne (Ne.symm h)]

/-! ## The swap (R23) -/

@[simp] theorem length_swapBanks (rs : List Nat) (j : Nat) (b : List Word × List Word) :
    (swapBanks rs j b).1.length = b.1.length ∧ (swapBanks rs j b).2.length = b.2.length := by
  induction rs generalizing j b with
  | nil => exact ⟨rfl, rfl⟩
  | cons r rs ih =>
    obtain ⟨xs, sh⟩ := b
    have := ih (j + 1) (writeReg xs r (sh.getD j 0#64), sh.set j (readReg xs r))
    simpa [swapBanks] using this

/-- A register outside the shadow set is not touched by the swap. -/
theorem readReg_swapBanks_of_not_mem {rs : List Nat} {m : Nat} (h : m ∉ rs) (j : Nat) (b : List Word × List Word) :
    readReg (swapBanks rs j b).1 m = readReg b.1 m := by
  induction rs generalizing j b with
  | nil => rfl
  | cons r rs ih =>
    obtain ⟨xs, sh⟩ := b
    have hr : m ≠ r := fun e => h (e ▸ List.mem_cons_self ..)
    rw [swapBanks, ih (fun hm => h (List.mem_cons_of_mem _ hm)), readReg_writeReg_other hr]

/-- A shadow register below the swap's first index is not touched by it. -/
theorem getD_swapBanks_of_lt {rs : List Nat} {i j : Nat} (h : i < j) (b : List Word × List Word) :
    (swapBanks rs j b).2.getD i 0#64 = b.2.getD i 0#64 := by
  induction rs generalizing j b with
  | nil => rfl
  | cons r rs ih =>
    obtain ⟨xs, sh⟩ := b
    rw [swapBanks, ih (Nat.lt_succ_of_lt h)]
    simp [List.getElem?_set_ne (Nat.ne_of_gt h)]

/-- The swap exchanges each pair, over distinct registers that hold values (R23). -/
theorem swapBanks_exchanges (rs : List Nat) (j : Nat) (xs sh : List Word) (hd : rs.Nodup)
    (hr : ∀ r ∈ rs, r < xs.length ∧ r ≠ 31) (hl : j + rs.length ≤ sh.length) (k : Nat) (hk : k < rs.length) :
    readReg (swapBanks rs j (xs, sh)).1 (rs.getD k 0) = sh.getD (j + k) 0#64 ∧
      (swapBanks rs j (xs, sh)).2.getD (j + k) 0#64 = readReg xs (rs.getD k 0) := by
  induction rs generalizing j xs sh k with
  | nil => simp at hk
  | cons r rs ih =>
    have hn := List.nodup_cons.mp hd
    have h0 := hr r (by simp)
    rw [swapBanks]
    cases k with
    | zero =>
      simp only [List.getD_cons_zero, Nat.add_zero]
      rw [readReg_swapBanks_of_not_mem hn.1, readReg_writeReg_self h0.1 h0.2, getD_swapBanks_of_lt (by omega)]
      refine ⟨rfl, ?_⟩
      simp only [List.length_cons] at hl
      have : j < sh.length := by omega
      simp [this]
    | succ k =>
      simp only [List.getD_cons_succ, List.length_cons] at *
      have := ih (j + 1) (writeReg xs r (sh.getD j 0#64)) (sh.set j (readReg xs r)) hn.2
        (by simpa using fun a ha => hr a (by simp [ha])) (by simp; omega) k (by omega)
      have hne : rs.getD k 0 ≠ r := by
        intro e
        apply hn.1
        rw [← e, List.getD_eq_getElem _ _ (by omega)]
        exact List.getElem_mem _
      rw [readReg_writeReg_other hne] at this
      have e : j + 1 + k = j + (k + 1) := by omega
      rw [e] at this
      rw [this.1, this.2]
      simp [List.getElem?_set_ne (show j ≠ j + (k+1) by omega)]

/-! ## Ending a command (R11) -/

/-- A finished command answers the one next state with its reply. -/
@[simp] theorem finish_eq_next {r : Result} {ev : List Event} {s t : State} :
    finish r ev s = .next t ↔ t = s.withReply ⟨.done r, ev⟩ := by
  constructor
  · intro h
    injection h with h
    exact h.symm
  · intro h
    rw [h]
    rfl

@[simp] theorem answer_eq_next {v : Word} {s t : State} :
    answer v s = .next t ↔ t = s.withReply ⟨.done (.value v), []⟩ := finish_eq_next

/-! ## Raising (R201) -/

/-- A raise answers a next state exactly with the slot empty, and then it is the state with the condition placed. -/
theorem raise_eq_next {c : Condition} {aux : Word} {s t : State} :
    raise c aux s = .next t ↔ s.excCond = none ∧ t = (s.withCondition c aux).withReply ⟨.fault c, []⟩ := by
  unfold raise
  cases h : s.excCond with
  | none => exact ⟨fun e => ⟨rfl, (by injection e with e; exact e.symm)⟩, fun e => by rw [e.2]⟩
  | some c' => exact ⟨fun e => (nomatch e), fun e => (nomatch e.1)⟩

/-- A raise is refused exactly with a condition in the slot, and by that name. -/
theorem raise_eq_refused {c : Condition} {aux : Word} {s : State} {r : Refusal} :
    raise c aux s = .refused r ↔ s.excCond ≠ none ∧ r = .conditionAlreadyRaised := by
  unfold raise
  cases h : s.excCond with
  | none => exact ⟨fun e => (nomatch e), fun e => absurd rfl e.1⟩
  | some c' => exact ⟨fun e => ⟨nofun, (by injection e with e; exact e.symm)⟩, fun e => by rw [e.2]⟩

/-! ## Taking a condition (R203) and returning (R207) -/

/-- What taking a condition leaves unchanged, and the fields it sets outright (R203; R297: "Not changed"). -/
theorem takeCondition_frame (off : Offset) (s : State) :
    (s.takeCondition off).excAddr = s.pc ||| bitWord s.pal ∧ (s.takeCondition off).pc = s.entryPoint off
      ∧ (s.takeCondition off).pal = true ∧ (s.takeCondition off).xlateCtx = .pal ∧ (s.takeCondition off).excCond = none
      ∧ (s.takeCondition off).excAux = 0 ∧ (s.takeCondition off).cfg = s.cfg ∧ (s.takeCondition off).f = s.f
      ∧ (s.takeCondition off).asn = s.asn ∧ (s.takeCondition off).cm = s.cm ∧ (s.takeCondition off).ier = s.ier
      ∧ (s.takeCondition off).ipend = s.ipend ∧ (s.takeCondition off).sirr = s.sirr
      ∧ (s.takeCondition off).ictl = s.ictl ∧ (s.takeCondition off).dctl = s.dctl
      ∧ (s.takeCondition off).itb = s.itb ∧ (s.takeCondition off).dtb = s.dtb
      ∧ (s.takeCondition off).intrFlag = s.intrFlag ∧ (s.takeCondition off).palBase = s.palBase := by
  unfold State.takeCondition State.linkCall State.swapOnEntry
  split <;> split <;> refine ⟨rfl, rfl, rfl, rfl, rfl, rfl, rfl, rfl, rfl, rfl, rfl, rfl, rfl, rfl, rfl, rfl, rfl, rfl, rfl⟩

/-- Step 4 of the transition on the banks: the swap exactly when shadow mode is on and the entry is from normal mode (R204). -/
theorem swapOnEntry_banks (v : Word) (s : State) :
    (((s.setExcAddr v).clearCondition).swapOnEntry).x = (if s.sde = true ∧ s.pal = false then s.swapShadow else s).x ∧
    (((s.setExcAddr v).clearCondition).swapOnEntry).sh = (if s.sde = true ∧ s.pal = false then s.swapShadow else s).sh ∧
    (((s.setExcAddr v).clearCondition).swapOnEntry).cfg = s.cfg ∧ (((s.setExcAddr v).clearCondition).swapOnEntry).ictl = s.ictl := by
  unfold State.swapOnEntry
  by_cases h : s.sde = true ∧ s.pal = false
  · have h' : (((s.setExcAddr v).clearCondition).sde && !((s.setExcAddr v).clearCondition).pal) = true := by
      show (s.sde && !s.pal) = true
      rw [h.1, h.2]; rfl
    rw [if_pos h, if_pos h']; exact ⟨rfl, rfl, rfl, rfl⟩
  · have h' : ¬(((s.setExcAddr v).clearCondition).sde && !((s.setExcAddr v).clearCondition).pal) = true := by
      show ¬(s.sde && !s.pal) = true
      simpa using h
    rw [if_neg h, if_neg h']; exact ⟨rfl, rfl, rfl, rfl⟩

/-- The banks after the transition: the swap of R204, then the link write of R205 into the bank then visible. -/
theorem takeCondition_banks (off : Offset) (s : State) :
    (s.takeCondition off).x = (if isCallVec s.cfg off = true ∧ s.callr = true then
        writeReg (if s.sde = true ∧ s.pal = false then s.swapShadow else s).x s.cfg.callLinkReg s.pc
      else (if s.sde = true ∧ s.pal = false then s.swapShadow else s).x) ∧
    (s.takeCondition off).sh = (if s.sde = true ∧ s.pal = false then s.swapShadow else s).sh := by
  obtain ⟨hx, hs, hc, hi⟩ := swapOnEntry_banks (s.pc ||| bitWord s.pal) s
  unfold State.takeCondition State.linkCall State.callr
  rw [hc, hi]
  by_cases h : isCallVec s.cfg off = true ∧ s.ictl.getLsbD 1 = true
  · have h' : (isCallVec s.cfg off && s.ictl.getLsbD 1) = true := by rw [h.1, h.2]; rfl
    rw [if_pos h, if_pos h', ← hx, ← hs]; exact ⟨rfl, rfl⟩
  · have h' : ¬(isCallVec s.cfg off && s.ictl.getLsbD 1) = true := by simpa using h
    rw [if_neg h, if_neg h', ← hx, ← hs]; exact ⟨rfl, rfl⟩

/-- DISPATCH answers a next state exactly with a condition raised (R202), and then it is the transition's. -/
theorem dispatchCondition_eq_next {s t : State} :
    dispatchCondition s = .next t ↔ ∃ c, s.excCond = some c ∧
      t = (s.takeCondition (vectorOf s.cfg c)).withReply ⟨.done (.value (s.entryPoint (vectorOf s.cfg c))), []⟩ := by
  unfold dispatchCondition
  cases h : s.excCond with
  | none => exact ⟨fun e => (nomatch e), fun ⟨_, e, _⟩ => (nomatch e)⟩
  | some c =>
    constructor
    · intro e
      exact ⟨c, rfl, answer_eq_next.mp e⟩
    · rintro ⟨c', e, ht⟩
      obtain rfl : c = c' := by simpa using e
      exact answer_eq_next.mpr ht

/-- PALRET answers a next state exactly in privileged mode: the redirect with an interrupt summarised and a target that is not
privileged (R209), else the completed return (R208). -/
theorem returnFromPal_eq_next {target : Word} {s t : State} :
    returnFromPal target s = .next t ↔ s.pal = true ∧
      ((s.isum ≠ 0#64 ∧ target.getLsbD 0 = false ∧
          t = (s.redirect target).withReply ⟨.done (.value (s.entryPoint s.cfg.vecInterrupt)), []⟩) ∨
        (¬(s.isum ≠ 0#64 ∧ target.getLsbD 0 = false) ∧
          t = (s.returnTo target).withReply ⟨.done (.value (target &&& ~~~3#64)), []⟩)) := by
  unfold returnFromPal
  by_cases hp : s.pal = true
  · have hp' : ¬ s.pal = false := by simp [hp]
    rw [if_neg hp']
    by_cases hr : s.isum ≠ 0#64 ∧ target.getLsbD 0 = false
    · rw [if_pos hr]
      constructor
      · exact fun h => ⟨hp, .inl ⟨hr.1, hr.2, answer_eq_next.mp h⟩⟩
      · rintro ⟨-, ⟨-, -, h⟩ | ⟨h, -⟩⟩
        · exact answer_eq_next.mpr h
        · exact absurd hr h
    · rw [if_neg hr]
      constructor
      · exact fun h => ⟨hp, .inr ⟨hr, answer_eq_next.mp h⟩⟩
      · rintro ⟨-, ⟨h1, h2, -⟩ | ⟨-, h⟩⟩
        · exact absurd ⟨h1, h2⟩ hr
        · exact answer_eq_next.mpr h
  · have hp' : s.pal = false := by simpa using hp
    rw [if_pos hp']
    exact ⟨fun e => (nomatch e), fun e => absurd e.1 hp⟩

end Sys2Proof.Machine
end

