-- ==== Sys2Proof/Laws/PerInstr.lean ====
section
/-! SUPPORT. Per-instruction laws about the commands as syntax. `TableRow`: the word of a well-formed command carries the fixed
bits of its row of spec/opcode_table.json (the row's mask and match, copied from the table, not from the encoder). -/

namespace Sys2Proof.Laws

/-- The `mask` and `match` of a command's row in spec/opcode_table.json. -/
def tableRow (i : Instr) : Word32 × Word32 :=
  match i with
  | .tblkup _ _ _ => (0xFFFFFEFF, 0x01000000)
  | .tbins _ _ _ => (0xFFFFFEFF, 0x02000000)
  | .tbia _ => (0xFFFFFEFF, 0x03000000)
  | .tbiap _ => (0xFFFFFEFF, 0x04000000)
  | .tbis _ _ => (0xFFFFFEFF, 0x05000000)
  | .xlate _ _ => (0xFFFFFCFF, 0x08000000)
  | .memx _ _ _ => (0xFFFFFCFF, 0x09000000)
  | .rdctlAsn => (0xFFFFFFFF, 0x10000000)
  | .rdctlCm => (0xFFFFFFFF, 0x10010000)
  | .rdctlIer => (0xFFFFFFFF, 0x10020000)
  | .rdctlIpend => (0xFFFFFFFF, 0x10030000)
  | .rdctlIsum => (0xFFFFFFFF, 0x10040000)
  | .rdctlSirr => (0xFFFFFFFF, 0x10050000)
  | .rdctlIvptb => (0xFFFFFFFF, 0x10060000)
  | .rdctlDvptb => (0xFFFFFFFF, 0x10070000)
  | .rdctlExcAddr => (0xFFFFFFFF, 0x10080000)
  | .rdctlExcSum => (0xFFFFFFFF, 0x10090000)
  | .rdctlMmStat => (0xFFFFFFFF, 0x100A0000)
  | .rdctlFaultVa => (0xFFFFFFFF, 0x100B0000)
  | .rdctlCpuid => (0xFFFFFFFF, 0x100C0000)
  | .rdctlPalBase => (0xFFFFFFFF, 0x100D0000)
  | .rdctlIctl => (0xFFFFFFFF, 0x100E0000)
  | .rdctlDctl => (0xFFFFFFFF, 0x100F0000)
  | .rdctlItbTag => (0xFFFFFFFF, 0x10100000)
  | .rdctlItbPte => (0xFFFFFFFF, 0x10110000)
  | .rdctlItbIa => (0xFFFFFFFF, 0x10120000)
  | .rdctlItbIap => (0xFFFFFFFF, 0x10130000)
  | .rdctlItbIs => (0xFFFFFFFF, 0x10140000)
  | .rdctlDtbTag => (0xFFFFFFFF, 0x10180000)
  | .rdctlDtbPte => (0xFFFFFFFF, 0x10190000)
  | .rdctlDtbIa => (0xFFFFFFFF, 0x101A0000)
  | .rdctlDtbIap => (0xFFFFFFFF, 0x101B0000)
  | .rdctlDtbIs => (0xFFFFFFFF, 0x101C0000)
  | .rdctlOther _ => (0xFF00FFFF, 0x10000000)
  | .wrctlAsn _ => (0xFFFFFFFF, 0x11000000)
  | .wrctlCm _ => (0xFFFFFFFF, 0x11010000)
  | .wrctlIer _ => (0xFFFFFFFF, 0x11020000)
  | .wrctlIpend _ => (0xFFFFFFFF, 0x11030000)
  | .wrctlIsum _ => (0xFFFFFFFF, 0x11040000)
  | .wrctlSirr _ => (0xFFFFFFFF, 0x11050000)
  | .wrctlIvptb _ => (0xFFFFFFFF, 0x11060000)
  | .wrctlDvptb _ => (0xFFFFFFFF, 0x11070000)
  | .wrctlExcAddr _ => (0xFFFFFFFF, 0x11080000)
  | .wrctlExcSum _ => (0xFFFFFFFF, 0x11090000)
  | .wrctlMmStat _ => (0xFFFFFFFF, 0x110A0000)
  | .wrctlFaultVa _ => (0xFFFFFFFF, 0x110B0000)
  | .wrctlCpuid _ => (0xFFFFFFFF, 0x110C0000)
  | .wrctlPalBase _ => (0xFFFFFFFF, 0x110D0000)
  | .wrctlIctl _ => (0xFFFFFFFF, 0x110E0000)
  | .wrctlDctl _ => (0xFFFFFFFF, 0x110F0000)
  | .wrctlItbTag _ => (0xFFFFFFFF, 0x11100000)
  | .wrctlItbPte _ => (0xFFFFFFFF, 0x11110000)
  | .wrctlItbIa _ => (0xFFFFFFFF, 0x11120000)
  | .wrctlItbIap _ => (0xFFFFFFFF, 0x11130000)
  | .wrctlItbIs _ => (0xFFFFFFFF, 0x11140000)
  | .wrctlDtbTag _ => (0xFFFFFFFF, 0x11180000)
  | .wrctlDtbPte _ => (0xFFFFFFFF, 0x11190000)
  | .wrctlDtbIa _ => (0xFFFFFFFF, 0x111A0000)
  | .wrctlDtbIap _ => (0xFFFFFFFF, 0x111B0000)
  | .wrctlDtbIs _ => (0xFFFFFFFF, 0x111C0000)
  | .wrctlOther _ _ => (0xFF00FFFF, 0x11000000)
  | .raiseGOpcdec _ => (0xFFFFFFFF, 0x18000100)
  | .raiseGArith _ => (0xFFFFFFFF, 0x18010100)
  | .raiseGFen _ => (0xFFFFFFFF, 0x18020100)
  | .raiseGInterrupt _ => (0xFFFFFFFF, 0x18030100)
  | .raiseV _ _ => (0xFFFFFFFF, 0x18000000)
  | .dispatch => (0xFFFFFFFF, 0x19000000)
  | .palret _ => (0xFFFFFFFF, 0x1A000000)
  | .irq _ => (0xFFFFFFFF, 0x1B000000)
  | .rs => (0xFFFFFFFF, 0x1C000000)
  | .rc => (0xFFFFFFFF, 0x1D000000)
  | .cvtfs _ => (0xFFFFFFFF, 0x20000000)
  | .cvtsf _ => (0xFFFFFFFF, 0x21000000)
  | .cvtgt _ => (0xFFFFFFFF, 0x22000000)
  | .cvttg _ => (0xFFFFFFFF, 0x23000000)
  | .lds _ => (0xFFFFFFFF, 0x24000000)
  | .sts _ => (0xFFFFFFFF, 0x25000000)
  | .ldt _ => (0xFFFFFFFF, 0x26000000)
  | .stt _ => (0xFFFFFFFF, 0x27000000)
  | .addlv _ _ => (0xFFFFFFFF, 0x28000000)
  | .sublv _ _ => (0xFFFFFFFF, 0x29000000)
  | .mullv _ _ => (0xFFFFFFFF, 0x2A000000)
  | .addqv _ _ => (0xFFFFFFFF, 0x2B000000)
  | .subqv _ _ => (0xFFFFFFFF, 0x2C000000)
  | .mulqv _ _ => (0xFFFFFFFF, 0x2D000000)
  | .rdgpr _ => (0xFFE0FFFF, 0x30000000)
  | .wrgpr _ _ => (0xFFE0FFFF, 0x31000000)
  | .rdpc => (0xFFFFFFFF, 0x32000000)
  | .wrpc _ => (0xFFFFFFFF, 0x33000000)

/-- The encoded word has the row's fixed bits. -/
def TableRow.Statement (i : Instr) : Prop :=
  WellFormed i = true → (encode i).w &&& (tableRow i).1 = (tableRow i).2

theorem TableRow.tblkup (st : Stream) (va : Word) (asn : Word) : TableRow.Statement (.tblkup st va asn) := fun _ =>
  match st with
  | .i => (by decide : word 0x01 0 (streamCode .i) &&& 0xFFFFFEFF#32 = 0x01000000#32)
  | .d => (by decide : word 0x01 0 (streamCode .d) &&& 0xFFFFFEFF#32 = 0x01000000#32)
theorem TableRow.tbins (st : Stream) (va : Word) (pte : Word) : TableRow.Statement (.tbins st va pte) := fun _ =>
  match st with
  | .i => (by decide : word 0x02 0 (streamCode .i) &&& 0xFFFFFEFF#32 = 0x02000000#32)
  | .d => (by decide : word 0x02 0 (streamCode .d) &&& 0xFFFFFEFF#32 = 0x02000000#32)
theorem TableRow.tbia (st : Stream) : TableRow.Statement (.tbia st) := fun _ =>
  match st with
  | .i => (by decide : word 0x03 0 (streamCode .i) &&& 0xFFFFFEFF#32 = 0x03000000#32)
  | .d => (by decide : word 0x03 0 (streamCode .d) &&& 0xFFFFFEFF#32 = 0x03000000#32)
theorem TableRow.tbiap (st : Stream) : TableRow.Statement (.tbiap st) := fun _ =>
  match st with
  | .i => (by decide : word 0x04 0 (streamCode .i) &&& 0xFFFFFEFF#32 = 0x04000000#32)
  | .d => (by decide : word 0x04 0 (streamCode .d) &&& 0xFFFFFEFF#32 = 0x04000000#32)
theorem TableRow.tbis (st : Stream) (va : Word) : TableRow.Statement (.tbis st va) := fun _ =>
  match st with
  | .i => (by decide : word 0x05 0 (streamCode .i) &&& 0xFFFFFEFF#32 = 0x05000000#32)
  | .d => (by decide : word 0x05 0 (streamCode .d) &&& 0xFFFFFEFF#32 = 0x05000000#32)
theorem TableRow.xlate (k : Kind) (va : Word) : TableRow.Statement (.xlate k va) := fun _ =>
  match k with
  | .read => (by decide : word 0x08 0 (kindCode .read) &&& 0xFFFFFCFF#32 = 0x08000000#32)
  | .write => (by decide : word 0x08 0 (kindCode .write) &&& 0xFFFFFCFF#32 = 0x08000000#32)
  | .execute => (by decide : word 0x08 0 (kindCode .execute) &&& 0xFFFFFCFF#32 = 0x08000000#32)
theorem TableRow.memx (k : Kind) (va : Word) (insn : Option Word32) : TableRow.Statement (.memx k va insn) := fun _ =>
  match k with
  | .read => (by decide : word 0x09 0 (kindCode .read) &&& 0xFFFFFCFF#32 = 0x09000000#32)
  | .write => (by decide : word 0x09 0 (kindCode .write) &&& 0xFFFFFCFF#32 = 0x09000000#32)
  | .execute => (by decide : word 0x09 0 (kindCode .execute) &&& 0xFFFFFCFF#32 = 0x09000000#32)
theorem TableRow.rdctlAsn : TableRow.Statement .rdctlAsn := fun _ =>
  (by decide : word 0x10 0x00 0x00 &&& 0xFFFFFFFF#32 = 0x10000000#32)
theorem TableRow.rdctlCm : TableRow.Statement .rdctlCm := fun _ =>
  (by decide : word 0x10 0x01 0x00 &&& 0xFFFFFFFF#32 = 0x10010000#32)
theorem TableRow.rdctlIer : TableRow.Statement .rdctlIer := fun _ =>
  (by decide : word 0x10 0x02 0x00 &&& 0xFFFFFFFF#32 = 0x10020000#32)
theorem TableRow.rdctlIpend : TableRow.Statement .rdctlIpend := fun _ =>
  (by decide : word 0x10 0x03 0x00 &&& 0xFFFFFFFF#32 = 0x10030000#32)
theorem TableRow.rdctlIsum : TableRow.Statement .rdctlIsum := fun _ =>
  (by decide : word 0x10 0x04 0x00 &&& 0xFFFFFFFF#32 = 0x10040000#32)
theorem TableRow.rdctlSirr : TableRow.Statement .rdctlSirr := fun _ =>
  (by decide : word 0x10 0x05 0x00 &&& 0xFFFFFFFF#32 = 0x10050000#32)
theorem TableRow.rdctlIvptb : TableRow.Statement .rdctlIvptb := fun _ =>
  (by decide : word 0x10 0x06 0x00 &&& 0xFFFFFFFF#32 = 0x10060000#32)
theorem TableRow.rdctlDvptb : TableRow.Statement .rdctlDvptb := fun _ =>
  (by decide : word 0x10 0x07 0x00 &&& 0xFFFFFFFF#32 = 0x10070000#32)
theorem TableRow.rdctlExcAddr : TableRow.Statement .rdctlExcAddr := fun _ =>
  (by decide : word 0x10 0x08 0x00 &&& 0xFFFFFFFF#32 = 0x10080000#32)
theorem TableRow.rdctlExcSum : TableRow.Statement .rdctlExcSum := fun _ =>
  (by decide : word 0x10 0x09 0x00 &&& 0xFFFFFFFF#32 = 0x10090000#32)
theorem TableRow.rdctlMmStat : TableRow.Statement .rdctlMmStat := fun _ =>
  (by decide : word 0x10 0x0A 0x00 &&& 0xFFFFFFFF#32 = 0x100A0000#32)
theorem TableRow.rdctlFaultVa : TableRow.Statement .rdctlFaultVa := fun _ =>
  (by decide : word 0x10 0x0B 0x00 &&& 0xFFFFFFFF#32 = 0x100B0000#32)
theorem TableRow.rdctlCpuid : TableRow.Statement .rdctlCpuid := fun _ =>
  (by decide : word 0x10 0x0C 0x00 &&& 0xFFFFFFFF#32 = 0x100C0000#32)
theorem TableRow.rdctlPalBase : TableRow.Statement .rdctlPalBase := fun _ =>
  (by decide : word 0x10 0x0D 0x00 &&& 0xFFFFFFFF#32 = 0x100D0000#32)
theorem TableRow.rdctlIctl : TableRow.Statement .rdctlIctl := fun _ =>
  (by decide : word 0x10 0x0E 0x00 &&& 0xFFFFFFFF#32 = 0x100E0000#32)
theorem TableRow.rdctlDctl : TableRow.Statement .rdctlDctl := fun _ =>
  (by decide : word 0x10 0x0F 0x00 &&& 0xFFFFFFFF#32 = 0x100F0000#32)
theorem TableRow.rdctlItbTag : TableRow.Statement .rdctlItbTag := fun _ =>
  (by decide : word 0x10 0x10 0x00 &&& 0xFFFFFFFF#32 = 0x10100000#32)
theorem TableRow.rdctlItbPte : TableRow.Statement .rdctlItbPte := fun _ =>
  (by decide : word 0x10 0x11 0x00 &&& 0xFFFFFFFF#32 = 0x10110000#32)
theorem TableRow.rdctlItbIa : TableRow.Statement .rdctlItbIa := fun _ =>
  (by decide : word 0x10 0x12 0x00 &&& 0xFFFFFFFF#32 = 0x10120000#32)
theorem TableRow.rdctlItbIap : TableRow.Statement .rdctlItbIap := fun _ =>
  (by decide : word 0x10 0x13 0x00 &&& 0xFFFFFFFF#32 = 0x10130000#32)
theorem TableRow.rdctlItbIs : TableRow.Statement .rdctlItbIs := fun _ =>
  (by decide : word 0x10 0x14 0x00 &&& 0xFFFFFFFF#32 = 0x10140000#32)
theorem TableRow.rdctlDtbTag : TableRow.Statement .rdctlDtbTag := fun _ =>
  (by decide : word 0x10 0x18 0x00 &&& 0xFFFFFFFF#32 = 0x10180000#32)
theorem TableRow.rdctlDtbPte : TableRow.Statement .rdctlDtbPte := fun _ =>
  (by decide : word 0x10 0x19 0x00 &&& 0xFFFFFFFF#32 = 0x10190000#32)
theorem TableRow.rdctlDtbIa : TableRow.Statement .rdctlDtbIa := fun _ =>
  (by decide : word 0x10 0x1A 0x00 &&& 0xFFFFFFFF#32 = 0x101A0000#32)
theorem TableRow.rdctlDtbIap : TableRow.Statement .rdctlDtbIap := fun _ =>
  (by decide : word 0x10 0x1B 0x00 &&& 0xFFFFFFFF#32 = 0x101B0000#32)
theorem TableRow.rdctlDtbIs : TableRow.Statement .rdctlDtbIs := fun _ =>
  (by decide : word 0x10 0x1C 0x00 &&& 0xFFFFFFFF#32 = 0x101C0000#32)
theorem TableRow.rdctlOther (id : ByteField) : TableRow.Statement (.rdctlOther id) := fun _ =>
  (by decide : ∀ i : ByteField, word 0x10 i 0 &&& 0xFF00FFFF#32 = 0x10000000#32) id
theorem TableRow.wrctlAsn (v : Word) : TableRow.Statement (.wrctlAsn v) := fun _ =>
  (by decide : word 0x11 0x00 0x00 &&& 0xFFFFFFFF#32 = 0x11000000#32)
theorem TableRow.wrctlCm (v : Word) : TableRow.Statement (.wrctlCm v) := fun _ =>
  (by decide : word 0x11 0x01 0x00 &&& 0xFFFFFFFF#32 = 0x11010000#32)
theorem TableRow.wrctlIer (v : Word) : TableRow.Statement (.wrctlIer v) := fun _ =>
  (by decide : word 0x11 0x02 0x00 &&& 0xFFFFFFFF#32 = 0x11020000#32)
theorem TableRow.wrctlIpend (v : Word) : TableRow.Statement (.wrctlIpend v) := fun _ =>
  (by decide : word 0x11 0x03 0x00 &&& 0xFFFFFFFF#32 = 0x11030000#32)
theorem TableRow.wrctlIsum (v : Word) : TableRow.Statement (.wrctlIsum v) := fun _ =>
  (by decide : word 0x11 0x04 0x00 &&& 0xFFFFFFFF#32 = 0x11040000#32)
theorem TableRow.wrctlSirr (v : Word) : TableRow.Statement (.wrctlSirr v) := fun _ =>
  (by decide : word 0x11 0x05 0x00 &&& 0xFFFFFFFF#32 = 0x11050000#32)
theorem TableRow.wrctlIvptb (v : Word) : TableRow.Statement (.wrctlIvptb v) := fun _ =>
  (by decide : word 0x11 0x06 0x00 &&& 0xFFFFFFFF#32 = 0x11060000#32)
theorem TableRow.wrctlDvptb (v : Word) : TableRow.Statement (.wrctlDvptb v) := fun _ =>
  (by decide : word 0x11 0x07 0x00 &&& 0xFFFFFFFF#32 = 0x11070000#32)
theorem TableRow.wrctlExcAddr (v : Word) : TableRow.Statement (.wrctlExcAddr v) := fun _ =>
  (by decide : word 0x11 0x08 0x00 &&& 0xFFFFFFFF#32 = 0x11080000#32)
theorem TableRow.wrctlExcSum (v : Word) : TableRow.Statement (.wrctlExcSum v) := fun _ =>
  (by decide : word 0x11 0x09 0x00 &&& 0xFFFFFFFF#32 = 0x11090000#32)
theorem TableRow.wrctlMmStat (v : Word) : TableRow.Statement (.wrctlMmStat v) := fun _ =>
  (by decide : word 0x11 0x0A 0x00 &&& 0xFFFFFFFF#32 = 0x110A0000#32)
theorem TableRow.wrctlFaultVa (v : Word) : TableRow.Statement (.wrctlFaultVa v) := fun _ =>
  (by decide : word 0x11 0x0B 0x00 &&& 0xFFFFFFFF#32 = 0x110B0000#32)
theorem TableRow.wrctlCpuid (v : Word) : TableRow.Statement (.wrctlCpuid v) := fun _ =>
  (by decide : word 0x11 0x0C 0x00 &&& 0xFFFFFFFF#32 = 0x110C0000#32)
theorem TableRow.wrctlPalBase (v : Word) : TableRow.Statement (.wrctlPalBase v) := fun _ =>
  (by decide : word 0x11 0x0D 0x00 &&& 0xFFFFFFFF#32 = 0x110D0000#32)
theorem TableRow.wrctlIctl (v : Word) : TableRow.Statement (.wrctlIctl v) := fun _ =>
  (by decide : word 0x11 0x0E 0x00 &&& 0xFFFFFFFF#32 = 0x110E0000#32)
theorem TableRow.wrctlDctl (v : Word) : TableRow.Statement (.wrctlDctl v) := fun _ =>
  (by decide : word 0x11 0x0F 0x00 &&& 0xFFFFFFFF#32 = 0x110F0000#32)
theorem TableRow.wrctlItbTag (v : Word) : TableRow.Statement (.wrctlItbTag v) := fun _ =>
  (by decide : word 0x11 0x10 0x00 &&& 0xFFFFFFFF#32 = 0x11100000#32)
theorem TableRow.wrctlItbPte (v : Word) : TableRow.Statement (.wrctlItbPte v) := fun _ =>
  (by decide : word 0x11 0x11 0x00 &&& 0xFFFFFFFF#32 = 0x11110000#32)
theorem TableRow.wrctlItbIa (v : Word) : TableRow.Statement (.wrctlItbIa v) := fun _ =>
  (by decide : word 0x11 0x12 0x00 &&& 0xFFFFFFFF#32 = 0x11120000#32)
theorem TableRow.wrctlItbIap (v : Word) : TableRow.Statement (.wrctlItbIap v) := fun _ =>
  (by decide : word 0x11 0x13 0x00 &&& 0xFFFFFFFF#32 = 0x11130000#32)
theorem TableRow.wrctlItbIs (v : Word) : TableRow.Statement (.wrctlItbIs v) := fun _ =>
  (by decide : word 0x11 0x14 0x00 &&& 0xFFFFFFFF#32 = 0x11140000#32)
theorem TableRow.wrctlDtbTag (v : Word) : TableRow.Statement (.wrctlDtbTag v) := fun _ =>
  (by decide : word 0x11 0x18 0x00 &&& 0xFFFFFFFF#32 = 0x11180000#32)
theorem TableRow.wrctlDtbPte (v : Word) : TableRow.Statement (.wrctlDtbPte v) := fun _ =>
  (by decide : word 0x11 0x19 0x00 &&& 0xFFFFFFFF#32 = 0x11190000#32)
theorem TableRow.wrctlDtbIa (v : Word) : TableRow.Statement (.wrctlDtbIa v) := fun _ =>
  (by decide : word 0x11 0x1A 0x00 &&& 0xFFFFFFFF#32 = 0x111A0000#32)
theorem TableRow.wrctlDtbIap (v : Word) : TableRow.Statement (.wrctlDtbIap v) := fun _ =>
  (by decide : word 0x11 0x1B 0x00 &&& 0xFFFFFFFF#32 = 0x111B0000#32)
theorem TableRow.wrctlDtbIs (v : Word) : TableRow.Statement (.wrctlDtbIs v) := fun _ =>
  (by decide : word 0x11 0x1C 0x00 &&& 0xFFFFFFFF#32 = 0x111C0000#32)
theorem TableRow.wrctlOther (id : ByteField) (v : Word) : TableRow.Statement (.wrctlOther id v) := fun _ =>
  (by decide : ∀ i : ByteField, word 0x11 i 0 &&& 0xFF00FFFF#32 = 0x11000000#32) id
theorem TableRow.raiseGOpcdec (aux : Word) : TableRow.Statement (.raiseGOpcdec aux) := fun _ =>
  (by decide : word 0x18 0x00 0x01 &&& 0xFFFFFFFF#32 = 0x18000100#32)
theorem TableRow.raiseGArith (aux : Word) : TableRow.Statement (.raiseGArith aux) := fun _ =>
  (by decide : word 0x18 0x01 0x01 &&& 0xFFFFFFFF#32 = 0x18010100#32)
theorem TableRow.raiseGFen (aux : Word) : TableRow.Statement (.raiseGFen aux) := fun _ =>
  (by decide : word 0x18 0x02 0x01 &&& 0xFFFFFFFF#32 = 0x18020100#32)
theorem TableRow.raiseGInterrupt (aux : Word) : TableRow.Statement (.raiseGInterrupt aux) := fun _ =>
  (by decide : word 0x18 0x03 0x01 &&& 0xFFFFFFFF#32 = 0x18030100#32)
theorem TableRow.raiseV (off : Offset) (aux : Word) : TableRow.Statement (.raiseV off aux) := fun _ =>
  (by decide : word 0x18 0x00 0x00 &&& 0xFFFFFFFF#32 = 0x18000000#32)
theorem TableRow.dispatch : TableRow.Statement .dispatch := fun _ =>
  (by decide : word 0x19 0x00 0x00 &&& 0xFFFFFFFF#32 = 0x19000000#32)
theorem TableRow.palret (target : Word) : TableRow.Statement (.palret target) := fun _ =>
  (by decide : word 0x1A 0x00 0x00 &&& 0xFFFFFFFF#32 = 0x1A000000#32)
theorem TableRow.irq (lines : Word) : TableRow.Statement (.irq lines) := fun _ =>
  (by decide : word 0x1B 0x00 0x00 &&& 0xFFFFFFFF#32 = 0x1B000000#32)
theorem TableRow.rs : TableRow.Statement .rs := fun _ =>
  (by decide : word 0x1C 0x00 0x00 &&& 0xFFFFFFFF#32 = 0x1C000000#32)
theorem TableRow.rc : TableRow.Statement .rc := fun _ =>
  (by decide : word 0x1D 0x00 0x00 &&& 0xFFFFFFFF#32 = 0x1D000000#32)
theorem TableRow.cvtfs (a : Word) : TableRow.Statement (.cvtfs a) := fun _ =>
  (by decide : word 0x20 0x00 0x00 &&& 0xFFFFFFFF#32 = 0x20000000#32)
theorem TableRow.cvtsf (b : Word32) : TableRow.Statement (.cvtsf b) := fun _ =>
  (by decide : word 0x21 0x00 0x00 &&& 0xFFFFFFFF#32 = 0x21000000#32)
theorem TableRow.cvtgt (a : Word) : TableRow.Statement (.cvtgt a) := fun _ =>
  (by decide : word 0x22 0x00 0x00 &&& 0xFFFFFFFF#32 = 0x22000000#32)
theorem TableRow.cvttg (b : Word) : TableRow.Statement (.cvttg b) := fun _ =>
  (by decide : word 0x23 0x00 0x00 &&& 0xFFFFFFFF#32 = 0x23000000#32)
theorem TableRow.lds (m : Word32) : TableRow.Statement (.lds m) := fun _ =>
  (by decide : word 0x24 0x00 0x00 &&& 0xFFFFFFFF#32 = 0x24000000#32)
theorem TableRow.sts (r : Word) : TableRow.Statement (.sts r) := fun _ =>
  (by decide : word 0x25 0x00 0x00 &&& 0xFFFFFFFF#32 = 0x25000000#32)
theorem TableRow.ldt (m : Word) : TableRow.Statement (.ldt m) := fun _ =>
  (by decide : word 0x26 0x00 0x00 &&& 0xFFFFFFFF#32 = 0x26000000#32)
theorem TableRow.stt (r : Word) : TableRow.Statement (.stt r) := fun _ =>
  (by decide : word 0x27 0x00 0x00 &&& 0xFFFFFFFF#32 = 0x27000000#32)
theorem TableRow.addlv (a : Word) (b : Word) : TableRow.Statement (.addlv a b) := fun _ =>
  (by decide : word 0x28 0x00 0x00 &&& 0xFFFFFFFF#32 = 0x28000000#32)
theorem TableRow.sublv (a : Word) (b : Word) : TableRow.Statement (.sublv a b) := fun _ =>
  (by decide : word 0x29 0x00 0x00 &&& 0xFFFFFFFF#32 = 0x29000000#32)
theorem TableRow.mullv (a : Word) (b : Word) : TableRow.Statement (.mullv a b) := fun _ =>
  (by decide : word 0x2A 0x00 0x00 &&& 0xFFFFFFFF#32 = 0x2A000000#32)
theorem TableRow.addqv (a : Word) (b : Word) : TableRow.Statement (.addqv a b) := fun _ =>
  (by decide : word 0x2B 0x00 0x00 &&& 0xFFFFFFFF#32 = 0x2B000000#32)
theorem TableRow.subqv (a : Word) (b : Word) : TableRow.Statement (.subqv a b) := fun _ =>
  (by decide : word 0x2C 0x00 0x00 &&& 0xFFFFFFFF#32 = 0x2C000000#32)
theorem TableRow.mulqv (a : Word) (b : Word) : TableRow.Statement (.mulqv a b) := fun _ =>
  (by decide : word 0x2D 0x00 0x00 &&& 0xFFFFFFFF#32 = 0x2D000000#32)
theorem TableRow.rdgpr (n : BitVec 5) : TableRow.Statement (.rdgpr n) := fun _ =>
  (by decide : ∀ m : BitVec 5, word 0x30 (m.setWidth 8) 0 &&& 0xFFE0FFFF#32 = 0x30000000#32) n
theorem TableRow.wrgpr (n : BitVec 5) (v : Word) : TableRow.Statement (.wrgpr n v) := fun _ =>
  (by decide : ∀ m : BitVec 5, word 0x31 (m.setWidth 8) 0 &&& 0xFFE0FFFF#32 = 0x31000000#32) n
theorem TableRow.rdpc : TableRow.Statement .rdpc := fun _ =>
  (by decide : word 0x32 0x00 0x00 &&& 0xFFFFFFFF#32 = 0x32000000#32)
theorem TableRow.wrpc (v : Word) : TableRow.Statement (.wrpc v) := fun _ =>
  (by decide : word 0x33 0x00 0x00 &&& 0xFFFFFFFF#32 = 0x33000000#32)

end Sys2Proof.Laws
end

