-- ==== Sys2Proof/Laws/Tlb.lean ====
section
/-! SUPPORT. What the scan of TBLKUP answers (40_tlb.md R101), and what each operation on a cache leaves of its size and its
slots (R104 to R107). -/

namespace Sys2Proof.Machine

/-! ## The scan (R101) -/

/-- The scan answers `None` exactly when no slot hits. -/
theorem firstHit_eq_none {c : Config} {va asn : Word} {es : List Slot} {i : Nat} :
    firstHit c va asn i es = none ↔ ∀ e ∈ es, e.hits c va asn = false := by
  induction es generalizing i with
  | nil => simp [firstHit]
  | cons a es ih =>
    by_cases h : a.hits c va asn = true
    · simp [firstHit, h]
    · simp [firstHit, h, ih]

/-- The scan from `i` on answers slot `i + j` exactly when that slot hits and no earlier one does. -/
theorem firstHit_eq_some {c : Config} {va asn : Word} {es : List Slot} {i n : Nat} {e : Slot} :
    firstHit c va asn i es = some (n, e) ↔
      ∃ j, n = i + j ∧ es[j]? = some e ∧ e.hits c va asn = true ∧ ∀ l < j, ∀ a, es[l]? = some a → a.hits c va asn = false := by
  induction es generalizing i with
  | nil => simp [firstHit]
  | cons a es ih =>
    by_cases h : a.hits c va asn = true
    · rw [firstHit, if_pos h]
      constructor
      · intro he
        simp only [Option.some.injEq, Prod.mk.injEq] at he
        obtain ⟨rfl, rfl⟩ := he
        exact ⟨0, rfl, rfl, h, fun l hl => absurd hl (Nat.not_lt_zero l)⟩
      · rintro ⟨j, rfl, hj, -, hl⟩
        cases j with
        | zero =>
          simp only [List.getElem?_cons_zero, Option.some.injEq] at hj
          simp [hj]
        | succ j => exact absurd (hl 0 (Nat.succ_pos j) a rfl) (by simp [h])
    · rw [firstHit, if_neg h, ih]
      constructor
      · rintro ⟨j, rfl, hj, he, hl⟩
        refine ⟨j + 1, by omega, by simpa using hj, he, fun l hlt b hb => ?_⟩
        cases l with
        | zero =>
          simp only [List.getElem?_cons_zero, Option.some.injEq] at hb
          simpa [← hb] using h
        | succ l => exact hl l (by omega) b (by simpa using hb)
      · rintro ⟨j, rfl, hj, he, hl⟩
        cases j with
        | zero =>
          simp only [List.getElem?_cons_zero, Option.some.injEq] at hj
          exact absurd (hj ▸ he) h
        | succ j =>
          exact ⟨j, by omega, by simpa using hj, he, fun l hlt b hb => hl (l + 1) (by omega) b (by simpa using hb)⟩

/-- TBLKUP answers slot `n` exactly when that slot hits and no earlier one does (R101). -/
theorem Tlb.lookup_eq_some {c : Config} {t : Tlb} {va asn : Word} {n : Nat} {e : Slot} :
    t.lookup c va asn = some (n, e) ↔
      t.slots[n]? = some e ∧ e.hits c va asn = true ∧ ∀ l < n, ∀ a, t.slots[l]? = some a → a.hits c va asn = false := by
  rw [Tlb.lookup, firstHit_eq_some]
  simp

/-- TBLKUP answers `None` exactly when no slot hits (R101). -/
theorem Tlb.lookup_eq_none {c : Config} {t : Tlb} {va asn : Word} :
    t.lookup c va asn = none ↔ ∀ e ∈ t.slots, e.hits c va asn = false := firstHit_eq_none

/-! ## Killing a slot -/

@[simp] theorem Slot.kill_live (e : Slot) : e.kill.live = false := rfl
@[simp] theorem Slot.kill_tag (e : Slot) : e.kill.tag = e.tag := rfl
@[simp] theorem Slot.kill_ppn (e : Slot) : e.kill.ppn = e.ppn := rfl
@[simp] theorem Slot.kill_flags (e : Slot) : e.kill.flags = e.flags := rfl
@[simp] theorem Slot.kill_asn (e : Slot) : e.kill.asn = e.asn := rfl
@[simp] theorem Slot.kill_covers (c : Config) (e : Slot) (va : Word) : e.kill.covers c va = false := rfl
@[simp] theorem Slot.kill_hits (c : Config) (e : Slot) (va asn : Word) : e.kill.hits c va asn = false := rfl

/-! ## Sizes and the cyclic index: a flush keeps `next` (R105 to R107) -/

@[simp] theorem Tlb.length_insert (e : Slot) (t : Tlb) : (t.insert e).slots.length = t.slots.length := by simp [Tlb.insert]
@[simp] theorem Tlb.length_flushAll (t : Tlb) : t.flushAll.slots.length = t.slots.length := by simp [Tlb.flushAll]
@[simp] theorem Tlb.length_flushNonGlobal (t : Tlb) : t.flushNonGlobal.slots.length = t.slots.length := by
  simp [Tlb.flushNonGlobal]
@[simp] theorem Tlb.length_flushPage (c : Config) (va : Word) (t : Tlb) :
    (t.flushPage c va).slots.length = t.slots.length := by simp [Tlb.flushPage]
@[simp] theorem Tlb.next_insert (e : Slot) (t : Tlb) : (t.insert e).next = (t.next + 1) % Config.tlbEntries := rfl
@[simp] theorem Tlb.next_flushAll (t : Tlb) : t.flushAll.next = t.next := rfl
@[simp] theorem Tlb.next_flushNonGlobal (t : Tlb) : t.flushNonGlobal.next = t.next := rfl
@[simp] theorem Tlb.next_flushPage (c : Config) (va : Word) (t : Tlb) : (t.flushPage c va).next = t.next := rfl

/-! ## A property of slots that killing keeps is kept by every flush -/

/-- What holds of the new entry and of every slot before holds of every slot after an insert. -/
theorem Tlb.forall_insert {P : Slot → Prop} {e : Slot} {t : Tlb} (he : P e) (h : ∀ a ∈ t.slots, P a) :
    ∀ a ∈ (t.insert e).slots, P a := by
  intro a ha
  rcases List.mem_or_eq_of_mem_set ha with ha | rfl
  · exact h a ha
  · exact he

theorem Tlb.forall_flushAll {P : Slot → Prop} {t : Tlb} (hk : ∀ a, P a → P a.kill) (h : ∀ a ∈ t.slots, P a) :
    ∀ a ∈ t.flushAll.slots, P a := by
  intro a ha
  obtain ⟨b, hb, rfl⟩ := List.mem_map.mp ha
  exact hk b (h b hb)

theorem Tlb.forall_flushNonGlobal {P : Slot → Prop} {t : Tlb} (hk : ∀ a, P a → P a.kill) (h : ∀ a ∈ t.slots, P a) :
    ∀ a ∈ t.flushNonGlobal.slots, P a := by
  intro a ha
  obtain ⟨b, hb, rfl⟩ := List.mem_map.mp ha
  split
  · exact h b hb
  · exact hk b (h b hb)

theorem Tlb.forall_flushPage {P : Slot → Prop} {c : Config} {va : Word} {t : Tlb} (hk : ∀ a, P a → P a.kill)
    (h : ∀ a ∈ t.slots, P a) : ∀ a ∈ (t.flushPage c va).slots, P a := by
  intro a ha
  obtain ⟨b, hb, rfl⟩ := List.mem_map.mp ha
  split
  · exact hk b (h b hb)
  · exact h b hb

/-! ## What a page flush removes, and what misses afterwards (R107, R75; log entry 16) -/

/-- A slot that covers the operand is removed under either reach. -/
theorem Tlb.removes_of_covers {c : Config} {t : Tlb} {va : Word} {e : Slot} (h : e.covers c va = true) :
    t.removes c va e = true := by simp [Tlb.removes, h]

/-- Under the reach of R107's pseudocode the removed slots are the covering ones. -/
@[simp] theorem Tlb.removes_covering {c : Config} {t : Tlb} {va : Word} {e : Slot} (h : c.flushReach = .covering) :
    t.removes c va e = e.covers c va := by simp [Tlb.removes, h]

/-- A slot that shares an address with a page that covers the operand, and is no smaller than it, covers the operand. -/
theorem Slot.covers_of_shared {c : Config} {va va' : Word} {e a : Slot} (covers : e.covers c va = true)
    (inside : va' >>> e.pageShift c = e.tag >>> e.pageShift c) (shared : a.covers c va' = true)
    (larger : e.pageShift c ≤ a.pageShift c) : a.covers c va = true := by
  obtain ⟨d, hd⟩ := Nat.exists_eq_add_of_le larger
  simp only [Slot.covers, Bool.and_eq_true, beq_iff_eq] at covers shared ⊢
  refine ⟨shared.1, ?_⟩
  rw [shared.2, hd, BitVec.shiftRight_add, BitVec.shiftRight_add, inside, covers.2]

/-- A slot that shares an address with a removed page, and is smaller than it, lies inside it. -/
theorem Tlb.inCoveredRange_of_shared {c : Config} {t : Tlb} {va va' : Word} {e a : Slot} (mem : e ∈ t.slots)
    (covers : e.covers c va = true) (inside : va' >>> e.pageShift c = e.tag >>> e.pageShift c)
    (shared : a.covers c va' = true) (smaller : a.pageShift c ≤ e.pageShift c) : t.inCoveredRange c va a = true := by
  obtain ⟨d, hd⟩ := Nat.exists_eq_add_of_le smaller
  simp only [Slot.covers, Bool.and_eq_true, beq_iff_eq] at shared
  simp only [Tlb.inCoveredRange, Bool.and_eq_true, List.any_eq_true, beq_iff_eq]
  refine ⟨shared.1, e, mem, covers, ?_⟩
  rw [← inside, hd, BitVec.shiftRight_add, BitVec.shiftRight_add, shared.2]

/-- An address misses after a page flush when every slot that covers it is removed. -/
theorem Tlb.lookup_flushPage_eq_none {c : Config} {va va' asn : Word} {t : Tlb}
    (removed : ∀ a ∈ t.slots, a.covers c va' = true → t.removes c va a = true) :
    (t.flushPage c va).lookup c va' asn = none := by
  rw [Tlb.lookup_eq_none]
  intro a ha
  obtain ⟨b, hb, rfl⟩ := List.mem_map.mp ha
  by_cases hr : t.removes c va b = true
  · simp [hr]
  · have apart : ¬b.covers c va' = true := fun h => hr (removed b hb h)
    simp [hr, Slot.hits, apart]

/-- R75 whole under the wide reach: every address of the page of an entry the flush covers misses, under every ASN. -/
theorem Tlb.lookup_flushPage_wholeRange {c : Config} {va va' asn : Word} {t : Tlb} {e : Slot} (reach : c.flushReach = .wholeRange)
    (mem : e ∈ t.slots) (covers : e.covers c va = true) (inside : va' >>> e.pageShift c = e.tag >>> e.pageShift c) :
    (t.flushPage c va).lookup c va' asn = none := by
  refine Tlb.lookup_flushPage_eq_none fun a _ shared => ?_
  rcases Nat.le_total (e.pageShift c) (a.pageShift c) with larger | smaller
  · exact Tlb.removes_of_covers (Slot.covers_of_shared covers inside shared larger)
  · simp [Tlb.removes, reach, Tlb.inCoveredRange_of_shared mem covers inside shared smaller]

/-- R75 under the reach of R107's pseudocode: the same where no smaller slot that does not cover the operand covers the
address. -/
theorem Tlb.lookup_flushPage_covering {c : Config} {va va' asn : Word} {t : Tlb} {e : Slot} (covers : e.covers c va = true)
    (inside : va' >>> e.pageShift c = e.tag >>> e.pageShift c)
    (larger : ∀ a ∈ t.slots, a.covers c va' = true → a.covers c va = false → e.pageShift c ≤ a.pageShift c) :
    (t.flushPage c va).lookup c va' asn = none := by
  refine Tlb.lookup_flushPage_eq_none fun a mem shared => ?_
  cases h : a.covers c va
  · exact Tlb.removes_of_covers (Slot.covers_of_shared covers inside shared (larger a mem shared h))
  · exact Tlb.removes_of_covers h

end Sys2Proof.Machine
end

