-- ==== Sys2Proof/Laws/Translate.lean ====
section
/-! SUPPORT. What MEMX can do (41_translate.md R130), said once, and that a translation reads only what R120 names. -/

namespace Sys2Proof.Machine

/-- MEMX answers a next state in exactly three ways: the translation succeeds and nothing else changes; it fails on the
instruction stream and the condition is raised; it fails on the data stream with the instruction word given, and the
diagnostics are recorded and the condition raised. -/
theorem execMemx_eq_next {k : Kind} {va : Word} {insn : Option Word32} {s t : State} :
    execMemx k va insn s = .next t ↔
      (∃ pa cap, xlateOf k va s = .ok pa cap ∧ t = s.withReply ⟨.done (.translation (.ok pa cap)), []⟩) ∨
      (∃ r, xlateOf k va s = .err r ∧ k = .execute ∧
        raise (.vectored (instructionVector s.cfg r)) 0 s = .next t) ∨
      (∃ r w, xlateOf k va s = .err r ∧ k ≠ .execute ∧ insn = some w ∧
        raise (.vectored (dataVector s.cfg r)) 0 (s.recordDataFault k r va w) = .next t) := by
  unfold execMemx
  cases h : xlateOf k va s with
  | ok pa cap =>
    constructor
    · exact fun e => .inl ⟨pa, cap, rfl, finish_eq_next.mp e⟩
    · rintro (⟨pa', cap', e, ht⟩ | ⟨r, e, -⟩ | ⟨r, w, e, -⟩)
      · obtain ⟨rfl, rfl⟩ : pa = pa' ∧ cap = cap' := by simpa using e
        exact finish_eq_next.mpr ht
      · cases e
      · cases e
  | err r =>
    cases k with
    | execute =>
      constructor
      · exact fun e => .inr (.inl ⟨r, rfl, rfl, e⟩)
      · rintro (⟨_, _, e, -⟩ | ⟨r', e, -, ht⟩ | ⟨_, _, -, e, -⟩)
        · cases e
        · cases e
          exact ht
        · exact absurd rfl e
    | read =>
      cases insn with
      | none => simp [classifyFault, dataFault]
      | some w => simp [classifyFault, dataFault]
    | write =>
      cases insn with
      | none => simp [classifyFault, dataFault]
      | some w => simp [classifyFault, dataFault]

/-- An entry that a translation succeeds through is valid and lets the access through, and the answer is step 6's (R126,
R127). -/
theorem translateSlot_eq_ok {c : Config} {k : Kind} {m : BitVec 2} {e : Slot} {va pa : Word} {cap : Cap} :
    translateSlot c k m e va = .ok pa cap ↔
      e.valid = true ∧ accessDenied k e m = false ∧ readFaults k e = false ∧ writeFaults k e = false ∧
        pa = physicalAddress c e va ∧ cap = capOf e m := by
  unfold translateSlot
  cases e.valid <;> cases accessDenied k e m <;> cases readFaults k e <;> cases writeFaults k e <;>
    simp [eq_comm]

end Sys2Proof.Machine
end

