-- ==== Sys2Proof/Laws/Step.lean ====
section
/-! SUPPORT. What a step can do (Machine/Step.lean), said once. -/

namespace Sys2Proof.Machine

/-- A step that answers a next state did nothing on an empty port, or took the reset input, or ran the command at the head of
the port. -/
theorem step_eq_next {s t : State} :
    step s = .next t ↔
      (s.inputs = [] ∧ t = s) ∨
      (∃ rest, s.inputs = .reset :: rest ∧ t = resetInput (s.setInputs rest)) ∨
      (∃ c rest i, s.inputs = .command c :: rest ∧ decode c = .instr i ∧ exec i (s.setInputs rest) = .next t) := by
  unfold step takeInput
  cases h : s.inputs with
  | nil =>
    constructor
    · intro e
      injection e with e
      exact .inl ⟨rfl, e.symm⟩
    · rintro (⟨-, rfl⟩ | ⟨_, e, -⟩ | ⟨_, _, _, e, -⟩)
      · rfl
      · cases e
      · cases e
  | cons input rest =>
    cases input with
    | reset =>
      constructor
      · intro e
        injection e with e
        exact .inr (.inl ⟨rest, rfl, e.symm⟩)
      · rintro (⟨e, -⟩ | ⟨_, e, ht⟩ | ⟨_, _, _, e, -⟩)
        · cases e
        · cases e
          rw [ht]
        · cases e
    | command c =>
      cases hd : decode c with
      | illegal why =>
        simp only [hd]
        constructor
        · exact fun e => (nomatch e)
        · rintro (⟨e, -⟩ | ⟨_, e, -⟩ | ⟨_, _, _, e, hd', -⟩)
          · cases e
          · cases e
          · cases e
            rw [hd] at hd'
            cases hd'
      | instr i =>
        simp only [hd]
        constructor
        · exact fun e => .inr (.inr ⟨c, rest, i, rfl, hd, e⟩)
        · rintro (⟨e, -⟩ | ⟨_, e, -⟩ | ⟨_, _, _, e, hd', he⟩)
          · cases e
          · cases e
          · cases e
            rw [hd] at hd'
            cases hd'
            exact he

/-- What the reset input leaves: the fields R330 gives a value, and the ones that are the outside's or the model's. -/
theorem resetInput_fields (s : State) :
    (resetInput s).cfg = s.cfg ∧ (resetInput s).inputs = s.inputs ∧ (resetInput s).pc = s.cfg.vecReset.setWidth 64
      ∧ (resetInput s).pal = true ∧ (resetInput s).xlateCtx = .pal ∧ (resetInput s).excCond = none
      ∧ (resetInput s).ictl = 0 ∧ (resetInput s).dctl = 0 ∧ (resetInput s).ipend = 0 ∧ (resetInput s).ier = 0
      ∧ (resetInput s).reply = none := ⟨rfl, rfl, rfl, rfl, rfl, rfl, rfl, rfl, rfl, rfl, rfl⟩

end Sys2Proof.Machine
end

