-- ==== Sys2Proof/Tests/Slice0.lean ====
section
/-! SUPPORT. The model's own tests: ill-formed terms the check refuses, words written out from 30_encoding.md, one-step
vectors of 95_test_vectors.md (the vector's number or table stands in each docstring), and the witnesses of the statements'
hypotheses. -/

open Sys2Proof Sys2Proof.Machine Sys2Proof.Claims

namespace Sys2Proof.Tests

set_option Elab.async false

/-! ## Small states -/

/-- Normal mode, `PAL_BASE = 0x8000`, `pc = 0x20001000` (the start of V49). -/
def user : State :=
  { State.reset with pal := false, xlateCtx := .normal, palBase := 0x8000, pc := 0x20001000 }

/-- A slot. -/
def live (tag ppn : Word) (flags : BitVec 16) (asn : Word) : Slot :=
  { live := true, tag := tag, ppn := ppn, flags := flags, asn := asn }

/-- A cache with these slots first and the others dead. -/
def cache (l : List Slot) : Tlb :=
  { slots := l ++ List.replicate (128 - l.length) Slot.empty, next := l.length }

/-- A state with its data cache replaced. -/
def withD (l : List Slot) (s : State) : State := { s with dtb := cache l }

/-- A state with its instruction cache replaced. -/
def withI (l : List Slot) (s : State) : State := { s with itb := cache l }

/-- The state after a command that answers one. -/
def after (i : Instr) (s : State) : Option State :=
  match exec i s with
  | .next t => some t
  | .fault _ => none
  | .refused _ => none

/-- The refusal of a command that is refused. -/
def refusal (i : Instr) (s : State) : Option Refusal :=
  match exec i s with
  | .next _ => none
  | .fault _ => none
  | .refused r => some r

/-- The outcome of a command that answers one. -/
def outcome (i : Instr) (s : State) : Option CommandOutcome :=
  ((after i s).bind (fun t => t.reply)).map (fun r => r.outcome)

/-- The events of a command. -/
def events (i : Instr) (s : State) : Option (List Event) :=
  ((after i s).bind (fun t => t.reply)).map (fun r => r.events)

/-- The outcome `Done` of a value. -/
def value (v : Word) : Option CommandOutcome := some (.done (.value v))

/-- The outcome `Done` of a translation. -/
def answered (t : Translation) : Option CommandOutcome := some (.done (.translation t))

/-- The condition and the summary after a command. -/
def trapped (i : Instr) (s : State) : Option (Option Condition × Word) := (after i s).map fun t => (t.excCond, t.excSum)

/-- The entry of V8(a). -/
def entry8 : Slot := live 0x12000 0x55 0x1901 5

/-! ## Ill-formed terms (WellFormed) -/

/-- The ids at the ends of the two ranges of the table of 10_state.md have rows of their own. -/
theorem test_wf_refuses_other_of_implemented_ids :
    ∀ id ∈ ([0x00, 0x0E, 0x14, 0x18, 0x1C] : List ByteField),
      WellFormed (.rdctlOther id) = false ∧ WellFormed (.wrctlOther id 1) = false := by decide +kernel

/-- The ids just outside them have not. -/
theorem test_wf_accepts_other_of_unimplemented_ids :
    ∀ id ∈ ([0x15, 0x17, 0x1D, 0x40, 0xFF] : List ByteField),
      WellFormed (.rdctlOther id) = true ∧ WellFormed (.wrctlOther id 1) = true := by decide +kernel

/-! ## Words written out from R81 to R85 -/

/-- R84, formats S: OPC 0x01 to 0x05, `MOD[0]` the stream. -/
theorem test_words_of_the_caches :
    ∀ p ∈ ([(0x01000000, .tblkup .i 0 0),
        (0x01000100, .tblkup .d 0 0),
        (0x02000000, .tbins .i 0 0),
        (0x02000100, .tbins .d 0 0),
        (0x03000000, .tbia .i),
        (0x03000100, .tbia .d),
        (0x04000000, .tbiap .i),
        (0x04000100, .tbiap .d),
        (0x05000000, .tbis .i 0),
        (0x05000100, .tbis .d 0)] : List (Nat × Instr)), decodeTableWord 32 p.1 = some p.2 := by decide +kernel

/-- R84, format K: OPC 0x08 and 0x09, `MOD[1:0]` the kind; INSN_VALID = 0. -/
theorem test_words_of_the_translator :
    ∀ p ∈ ([(0x08000000, .xlate .read 0),
        (0x08000100, .xlate .write 0),
        (0x08000200, .xlate .execute 0),
        (0x09000000, .memx .read 0 none),
        (0x09000100, .memx .write 0 none),
        (0x09000200, .memx .execute 0 none)] : List (Nat × Instr)), decodeTableWord 32 p.1 = some p.2 := by decide +kernel

/-- R84, format R: OPC 0x10, IDX the id of 10_state.md's table; the ids around the table's ranges are the catch-all row's. -/
theorem test_words_of_rdctl :
    ∀ p ∈ ([(0x10000000, .rdctlAsn),
        (0x10010000, .rdctlCm),
        (0x10020000, .rdctlIer),
        (0x10030000, .rdctlIpend),
        (0x10040000, .rdctlIsum),
        (0x10050000, .rdctlSirr),
        (0x10060000, .rdctlIvptb),
        (0x10070000, .rdctlDvptb),
        (0x10080000, .rdctlExcAddr),
        (0x10090000, .rdctlExcSum),
        (0x100A0000, .rdctlMmStat),
        (0x100B0000, .rdctlFaultVa),
        (0x100C0000, .rdctlCpuid),
        (0x100D0000, .rdctlPalBase),
        (0x100E0000, .rdctlIctl),
        (0x100F0000, .rdctlDctl),
        (0x10100000, .rdctlItbTag),
        (0x10110000, .rdctlItbPte),
        (0x10120000, .rdctlItbIa),
        (0x10130000, .rdctlItbIap),
        (0x10140000, .rdctlItbIs),
        (0x10180000, .rdctlDtbTag),
        (0x10190000, .rdctlDtbPte),
        (0x101A0000, .rdctlDtbIa),
        (0x101B0000, .rdctlDtbIap),
        (0x101C0000, .rdctlDtbIs),
        (0x10150000, .rdctlOther 0x15),
        (0x10170000, .rdctlOther 0x17),
        (0x101D0000, .rdctlOther 0x1D),
        (0x10FF0000, .rdctlOther 0xFF)] : List (Nat × Instr)), decodeTableWord 32 p.1 = some p.2 := by decide +kernel

/-- The same of OPC 0x11. -/
theorem test_words_of_wrctl :
    ∀ p ∈ ([(0x11000000, .wrctlAsn 0),
        (0x11010000, .wrctlCm 0),
        (0x11020000, .wrctlIer 0),
        (0x11030000, .wrctlIpend 0),
        (0x11040000, .wrctlIsum 0),
        (0x11050000, .wrctlSirr 0),
        (0x11060000, .wrctlIvptb 0),
        (0x11070000, .wrctlDvptb 0),
        (0x11080000, .wrctlExcAddr 0),
        (0x11090000, .wrctlExcSum 0),
        (0x110A0000, .wrctlMmStat 0),
        (0x110B0000, .wrctlFaultVa 0),
        (0x110C0000, .wrctlCpuid 0),
        (0x110D0000, .wrctlPalBase 0),
        (0x110E0000, .wrctlIctl 0),
        (0x110F0000, .wrctlDctl 0),
        (0x11100000, .wrctlItbTag 0),
        (0x11110000, .wrctlItbPte 0),
        (0x11120000, .wrctlItbIa 0),
        (0x11130000, .wrctlItbIap 0),
        (0x11140000, .wrctlItbIs 0),
        (0x11180000, .wrctlDtbTag 0),
        (0x11190000, .wrctlDtbPte 0),
        (0x111A0000, .wrctlDtbIa 0),
        (0x111B0000, .wrctlDtbIap 0),
        (0x111C0000, .wrctlDtbIs 0),
        (0x11150000, .wrctlOther 0x15 0),
        (0x11170000, .wrctlOther 0x17 0),
        (0x111D0000, .wrctlOther 0x1D 0),
        (0x11FF0000, .wrctlOther 0xFF 0)] : List (Nat × Instr)), decodeTableWord 32 p.1 = some p.2 := by decide +kernel

/-- R84, R85: OPC 0x18 in format G, 0x19 to 0x1D in format N. -/
theorem test_words_of_the_dispatcher :
    ∀ p ∈ ([(0x18000100, .raiseGOpcdec 0),
        (0x18010100, .raiseGArith 0),
        (0x18020100, .raiseGFen 0),
        (0x18030100, .raiseGInterrupt 0),
        (0x18000000, .raiseV 0 0),
        (0x19000000, .dispatch),
        (0x1A000000, .palret 0),
        (0x1B000000, .irq 0),
        (0x1C000000, .rs),
        (0x1D000000, .rc)] : List (Nat × Instr)), decodeTableWord 32 p.1 = some p.2 := by decide +kernel

/-- R84, format N: OPC 0x20 to 0x2D. -/
theorem test_words_of_the_codec_and_the_arithmetic :
    ∀ p ∈ ([(0x20000000, .cvtfs 0),
        (0x21000000, .cvtsf 0),
        (0x22000000, .cvtgt 0),
        (0x23000000, .cvttg 0),
        (0x24000000, .lds 0),
        (0x25000000, .sts 0),
        (0x26000000, .ldt 0),
        (0x27000000, .stt 0),
        (0x28000000, .addlv 0 0),
        (0x29000000, .sublv 0 0),
        (0x2A000000, .mullv 0 0),
        (0x2B000000, .addqv 0 0),
        (0x2C000000, .subqv 0 0),
        (0x2D000000, .mulqv 0 0)] : List (Nat × Instr)), decodeTableWord 32 p.1 = some p.2 := by decide +kernel

/-- R84: OPC 0x30 and 0x31 in format X, `IDX[4:0]` the register; 0x32 and 0x33 in format N. -/
theorem test_words_of_the_register_port :
    ∀ p ∈ ([(0x30000000, .rdgpr 0),
        (0x301F0000, .rdgpr 31),
        (0x31170000, .wrgpr 23 0),
        (0x311F0000, .wrgpr 31 0),
        (0x32000000, .rdpc),
        (0x33000000, .wrpc 0)] : List (Nat × Instr)), decodeTableWord 32 p.1 = some p.2 := by decide +kernel

/-- R80, R83: the operands of one command of each shape come from the ports; what a command does not use is ignored. -/
theorem test_operands_come_from_the_ports :
    ∀ p ∈ ([(⟨0x01000100, 0x12000, 6, 0, false⟩, .tblkup .d 0x12000 6),
        (⟨0x09000100, 0x12345, 7, 0xB4220000, true⟩, .memx .write 0x12345 (some 0xB4220000)),
        (⟨0x09000000, 0x6000, 7, 0xB4220000, false⟩, .memx .read 0x6000 none),
        (⟨0x110E0000, 0x3E, 7, 1, true⟩, .wrctlIctl 0x3E),
        (⟨0x11400000, 5, 7, 1, true⟩, .wrctlOther 0x40 5),
        (⟨0x18010100, 9, 0x40, 1, true⟩, .raiseGArith 0x40),
        (⟨0x18000000, 0xFFFF, 0x40, 1, true⟩, .raiseV 0xFFFF 0x40),
        (⟨0x21000000, 0xFFFFFFFF3F800000, 7, 1, true⟩, .cvtsf 0x3F800000),
        (⟨0x24000000, 0xFFFFFFFF3F800000, 7, 1, true⟩, .lds 0x3F800000),
        (⟨0x2C000000, 5, 7, 1, true⟩, .subqv 5 7),
        (⟨0x31170000, 0x1234, 7, 1, true⟩, .wrgpr 23 0x1234)] : List (Command × Instr)),
      decode p.1 = .instr p.2 := by decide +kernel

/-- V4, V6, V7, the words listed under them, and one word for each further clause of R86. -/
theorem test_illegal_words :
    ∀ p ∈ ([(⟨0x08000300, 0, 0, 0, false⟩, .reservedKind), (⟨0x09000300, 0, 0, 0, true⟩, .reservedKind),
        (⟨0x09000400, 0, 0, 0, true⟩, .mustBeZeroSet), (⟨0x19000001, 0, 0, 0, false⟩, .zeroFieldSet),
        (⟨0x06000000, 0, 0, 0, false⟩, .reservedOpcode), (⟨0x00000000, 0, 0, 0, false⟩, .reservedOpcode),
        (⟨0x34000000, 0, 0, 0, false⟩, .reservedOpcode), (⟨0x2E000000, 0, 0, 0, false⟩, .reservedOpcode),
        (⟨0x18000000, 0x10000, 0, 0, false⟩, .offsetTooWide), (⟨0x18040100, 0, 0, 0, false⟩, .mustBeZeroSet),
        (⟨0x18010000, 0, 0, 0, false⟩, .mustBeZeroSet), (⟨0x18000200, 0, 0, 0, false⟩, .mustBeZeroSet),
        (⟨0x30200000, 0, 0, 0, false⟩, .mustBeZeroSet), (⟨0x31000100, 0, 0, 0, false⟩, .mustBeZeroSet),
        (⟨0x03000200, 0, 0, 0, false⟩, .mustBeZeroSet), (⟨0x03010000, 0, 0, 0, false⟩, .mustBeZeroSet),
        (⟨0x10000100, 0, 0, 0, false⟩, .mustBeZeroSet), (⟨0x1C000100, 0, 0, 0, false⟩, .mustBeZeroSet),
        (⟨0x20010000, 0, 0, 0, false⟩, .mustBeZeroSet)] : List (Command × IllegalCommand)),
      decode p.1 = .illegal p.2 := by decide +kernel

/-- Log entry 11: the operand ports above the 32-bit word. -/
theorem test_table_words_carry_the_ports :
    decodeTableWord 96 (0x110D0000 + 0x8000 * 2 ^ 32) = some (.wrctlPalBase 0x8000) ∧
      decodeTableWord 160 (0x01000100 + 0x12000 * 2 ^ 32 + 6 * 2 ^ 96) = some (.tblkup .d 0x12000 6) ∧
      decodeTableWord 200 (0x09000000 + 0xA4220000 * 2 ^ 160 + 2 ^ 192) = some (.memx .read 0 (some 0xA4220000)) ∧
      decodeTableWord 32 0x19000001 = none := by decide +kernel

/-! ## Steps -/

/-- R6: the word placed first is decoded and run; what was waiting stays. -/
theorem test_step_runs_the_fetched_word :
    (match step (State.reset.withFetchWord 96 (0x33000000 + 0x20001004 * 2 ^ 32)) with
      | .next t => decide (t.pc = 0x20001004 ∧ t.pal = true ∧ t.inputs = [])
      | .fault _ => false
      | .refused _ => false) = true := by decide +kernel

/-- R86 at a step (V6), and log entry 9: with nothing waiting nothing happens. -/
theorem test_step_refuses_an_illegal_word_and_idles :
    step (State.reset.withFetchWord 32 0x19000001) = .refused (.illegalCommand .zeroFieldSet) ∧
      step user = .next user := ⟨rfl, rfl⟩

/-- R330: the reset input from normal mode. -/
theorem test_reset_input :
    (match step { user with inputs := [.reset], ier := 5, excCond := some (.generic .fen) } with
      | .next t => decide (t.pc = 0x780 ∧ t.pal = true ∧ t.ier = 0 ∧ t.excCond = none ∧ t.palBase = 0)
      | .fault _ => false
      | .refused _ => false) = true := by rfl

/-! ## Translation caches (R100 to R107) -/

/-- R101's example, V8(b) and an empty cache. -/
theorem test_tblkup :
    outcome (.tblkup .d 0x12000 5) (withD [entry8] user) = some (.done (.lookup (some (0, entry8)))) ∧
      outcome (.tblkup .d 0x12000 6) (withD [entry8] user) = some (.done (.lookup none)) ∧
      outcome (.tblkup .i 0x12000 5) (withD [entry8] user) = some (.done (.lookup none)) := by decide +kernel

/-- R104's example (V8(a)). -/
theorem test_tbins :
    (after (.tbins .d 0x12345 0x0000005500001901) { user with asn := 5 }).map (fun t => t.dtb) =
      some (cache [entry8]) := by decide +kernel

/-- V14: the sign-extended tag, and `GH = 3` diagnosed. -/
theorem test_tbins_sign_extends_and_diagnoses :
    ((after (.tbins .d 0x000007FFFFFFE000 0x0000000300001101) user).map fun t => t.dtb.slots[0]?) =
      some (some (live 0xFFFFFFFFFFFFE000 3 0x1101 0)) ∧
      events (.tbins .d 0 0x1161) user = some [.diag (.reservedGh .d 0x1161)] := by decide +kernel

/-- R105, V47: only the stream's own cache, `next` kept, no event. -/
theorem test_tbia :
    ((after (.tbia .d) (withD [entry8] (withI [entry8] user))).map fun t =>
        (t.dtb.slots.all (fun e => !e.live), t.dtb.next, t.itb == cache [entry8])) = some (true, 1, true) ∧
      events (.tbia .d) (withD [entry8] user) = some [] := by decide +kernel

/-- V12. -/
theorem test_tbiap :
    ((after (.tbiap .d) (withD [live 0 1 0x1101 1, live 0 2 0x1111 1, live 0 3 0x1101 2] user)).map fun t =>
        (t.dtb.slots.map fun e => e.live).take 4) = some [false, true, false, false] := by decide +kernel

/-- R107's example: the eight base pages of a `GH = 1` entry, in ascending order. -/
theorem test_tbis :
    events (.tbis .d 0x1A008) (withD [live 0x10000 0x123 0x1121 9] user) =
        some ([0x10000, 0x12000, 0x14000, 0x16000, 0x18000, 0x1A000, 0x1C000, 0x1E000].map .icacheInvalPage) ∧
      ((after (.tbis .d 0x1A008) (withD [live 0x10000 0x123 0x1121 9] user)).map fun t =>
        (t.dtb.slots.map fun e => e.live).take 2) = some [false, false] := by decide +kernel

/-- A small entry inside a large one, the operand elsewhere in the large page: R107's pseudocode keeps the small one; under the
wide reach it goes too and is reported (R75, R74). -/
theorem test_tbis_reach :
    ((after (.tbis .d 0x1A008) (withD [live 0x10000 0x123 0x1121 9, entry8] user)).map fun t =>
        t.dtb.lookup t.cfg 0x12000 5) = some (some (1, entry8)) ∧
      ((after (.tbis .d 0x1A008) { withD [live 0x10000 0x123 0x1121 9, entry8] user with
          cfg := { Config.default with flushReach := .wholeRange } }).map fun t =>
        (t.dtb.lookup t.cfg 0x12000 5, (t.reply.map fun r => r.events.length))) = some (none, some 9) := by decide +kernel

/-! ## Translation (R120 to R134) -/

/-- V15, V16, V17, V18, V13, V21. -/
theorem test_xlate_through_the_cache :
    outcome (.xlate .read 0x12345) { withD [entry8] user with asn := 5, cm := 3 } =
        answered (.ok 0xAA345 ⟨true, false, true⟩) ∧
      outcome (.xlate .write 0x12345) { withD [entry8] user with asn := 5 } =
        answered (.ok 0xAA345 ⟨true, true, true⟩) ∧
      outcome (.xlate .read 0x12345) { withD [entry8] user with asn := 5, cm := 1 } =
        answered (.err (.accessViolation true false false)) ∧
      outcome (.xlate .read 0x4000) (withD [live 0x4000 7 0x1107 0] user) =
        answered (.err (.accessViolation false true false)) ∧
      outcome (.xlate .write 0x4000) (withD [live 0x4000 7 0x1107 0] user) =
        answered (.err (.accessViolation false false true)) ∧
      outcome (.xlate .read 0x6000) (withD [live 0x6000 1 0x1100 0] user) = answered (.err (.miss true)) ∧
      outcome (.xlate .read 0x8380) State.reset = answered (.err (.miss false)) := by decide +kernel

/-- V19, V20, V11, V22, V24, V25, V26, V29. -/
theorem test_xlate_elsewhere :
    outcome (.xlate .execute 0x4010) (withI [live 0x4000 7 0x0107 0] user) =
        answered (.ok 0xE010 ⟨false, false, true⟩) ∧
      outcome (.xlate .execute 0x8380) State.reset = answered (.ok 0x8380 ⟨false, false, true⟩) ∧
      outcome (.xlate .write 0x27FFF8) (withD [live 0x200000 0x1FF 0x1141 0] user) =
        answered (.ok 0x3FFFF8 ⟨true, true, true⟩) ∧
      outcome (.xlate .read 0xFFFF800012345678) { user with dctl := 0x3C } =
        answered (.ok 0x12345678 ⟨true, true, true⟩) ∧
      outcome (.xlate .read 0xFFFFFDFFFFFFFFF8) { user with dctl := 0x3C } =
        answered (.ok 0xFFFFFFFFFF8 ⟨true, true, true⟩) ∧
      outcome (.xlate .write 0xFFFFFFFF80001234) { user with dctl := 0x3C } =
        answered (.ok 0x1234 ⟨true, true, true⟩) ∧
      outcome (.xlate .read 0xFFFFFC0012345678) { user with dctl := 0x3C, cm := 3 } =
        answered (.err (.accessViolation true false false)) ∧
      outcome (.xlate .read 0xFFFF800012345678) { user with dctl := 0x38 } = answered (.err .badVirtualAddress) := by
  decide +kernel

/-- P1 step 9: the diagnostics of a data fault. -/
theorem test_memx_data_fault :
    ((after (.memx .write 0x12345 (some 0xB4220000)) { withD [entry8] user with asn := 5, cm := 3 }).map fun t =>
        (t.faultVa, t.mmStat, t.excSum, t.excCond)) =
      some (0x12345, 0x2D3, 0x100, some (.vectored 0x380)) := by decide +kernel

/-- V30, V31, V32. -/
theorem test_memx_elsewhere :
    outcome (.memx .execute 0x20000000 none) user = some (.fault (.vectored 0x580)) ∧
      outcome (.memx .execute 0x0000040000000000 none) user = some (.fault (.vectored 0x480)) ∧
      refusal (.memx .read 0x6000 none) user = some .noCodeBlockContext := by decide +kernel

/-! ## Control registers (R150 to R175) -/

/-- V34 with every register told from the others: each RDCTL answers its own register (R154 to R169). -/
theorem test_rdctl :
    ∀ p ∈ ([(.rdctlAsn, 1), (.rdctlCm, 2), (.rdctlIer, 3), (.rdctlIpend, 6), (.rdctlIsum, 2), (.rdctlSirr, 5),
        (.rdctlIvptb, 7), (.rdctlDvptb, 8), (.rdctlExcAddr, 9), (.rdctlExcSum, 10), (.rdctlMmStat, 0x2D3),
        (.rdctlFaultVa, 12), (.rdctlCpuid, 0), (.rdctlPalBase, 13), (.rdctlIctl, 0x3F), (.rdctlDctl, 0x3C)] :
        List (Instr × Word)),
      outcome p.1 { user with asn := 1, cm := 2, ier := 3, ipend := 6, sirr := 5, ivptb := 7, dvptb := 8, excAddr := 9,
                              excSum := 10, mmStat := 0x2D3, faultVa := 12, palBase := 13, ictl := 0x3F, dctl := 0x3C } = value p.2 := by
  decide +kernel

/-- V35, V5: write-only and unimplemented ids read zero (R152). -/
theorem test_rdctl_reads_zero :
    ∀ i ∈ ([.rdctlItbTag, .rdctlItbPte, .rdctlItbIa, .rdctlItbIap, .rdctlItbIs, .rdctlDtbTag, .rdctlDtbPte, .rdctlDtbIa,
        .rdctlDtbIap, .rdctlDtbIs, .rdctlOther 0xFF] : List Instr),
      outcome i { user with itbTag := 0x1234, dtbTag := 0x5678 } = value 0 := by decide +kernel

/-- V36, V42, V43. -/
theorem test_wrctl_asn :
    ((after (.wrctlAsn 0x1FF) State.reset).map fun t => t.asn) = some 0xFF ∧
      events (.wrctlAsn 0x1FF) State.reset = some [.diag (.reservedBits 0x00 0x1FF)] ∧
      ((after (.wrctlAsn 5) { withD [entry8] user with asn := 5 }).map fun t => t.dtb) = some (cache [entry8]) ∧
      ((after (.wrctlAsn 6) { withD [entry8] (withI [entry8] user) with asn := 5 }).map fun t =>
        (t.dtb.slots ++ t.itb.slots).all fun e => !e.live) = some true := by decide +kernel

/-- V37, V38, V39. -/
theorem test_wrctl_masked :
    ((after (.wrctlCm 7) State.reset).map fun t => t.cm) = some 3 ∧
      events (.wrctlCm 7) State.reset = some [.diag (.reservedBits 0x01 7)] ∧
      ((after (.wrctlIer 0xFFFFFFFFFFFFFFFF) State.reset).map fun t => t.ier) = some 0x7E1FFFC000 ∧
      ((after (.wrctlDctl 0x3F) State.reset).map fun t => t.dctl) = some 0x3C ∧
      events (.wrctlDctl 0x3F) State.reset = some [.diag (.reservedBits 0x0F 0x3F)] := by decide +kernel

/-- S4, S7: ISUM and the request line follow IER and SIRR. -/
theorem test_wrctl_ier_and_sirr_raise_the_line :
    ((after (.wrctlIer 0x1000000000) { user with ipend := 0x1000000000 }).map fun t => (t.isum, t.irqLine)) =
        some (0x1000000000, true) ∧
      ((after (.wrctlSirr 0xC000) { user with ier := 0x1000004000, ipend := 0x1000000000 }).map fun t =>
        (t.sirr, t.ipend, t.isum)) = some (0xC000, 0x100000C000, 0x1000004000) ∧
      ((after (.wrctlSirr 0) { user with sirr := 0xC000, ipend := 0x100000C000 }).map fun t => t.ipend) =
        some 0x1000000000 := by decide +kernel

/-- V40, V41 and the other read-only ids (R153). -/
theorem test_wrctl_ignored :
    ∀ p ∈ ([(.wrctlIpend 1, 0x03), (.wrctlIsum 1, 0x04), (.wrctlMmStat 1, 0x0A), (.wrctlFaultVa 1, 0x0B),
        (.wrctlCpuid 1, 0x0C), (.wrctlOther 0x40 1, 0x40)] : List (Instr × ByteField)),
      events p.1 user = some [.diag (.unmodeledWrite p.2 1)] ∧
        ((after p.1 user).map fun t => { t with reply := none }) = some user := by decide +kernel

/-- V48 and the other registers that store all 64 bits. -/
theorem test_wrctl_plain :
    ((after (.wrctlIvptb 0xFFFFFFFE00000000) user).map fun t => t.ivptb) = some 0xFFFFFFFE00000000 ∧
      ((after (.wrctlDvptb 0xFFFFFFFE00000003) user).map fun t => t.dvptb) = some 0xFFFFFFFE00000003 ∧
      ((after (.wrctlExcAddr 0xFFFFFFFE00000003) user).map fun t => t.excAddr) = some 0xFFFFFFFE00000003 ∧
      ((after (.wrctlExcSum 0xFFFFFFFE00000003) user).map fun t => t.excSum) = some 0xFFFFFFFE00000003 ∧
      ((after (.wrctlPalBase 0xFFFFFFFE00000003) user).map fun t => t.palBase) = some 0xFFFFFFFE00000003 ∧
      ((after (.wrctlItbTag 0x12345) user).map fun t => (t.itbTag, t.dtbTag)) = some (0x12345, 0) ∧
      ((after (.wrctlDtbTag 0x12345) user).map fun t => (t.itbTag, t.dtbTag)) = some (0, 0x12345) := by decide +kernel

/-- V44, V45, V46: `x[4]`, `sh[0]` and ICTL. -/
theorem test_wrctl_ictl :
    (([(true, 0, 1, 0xBBBB, 0xAAAA, 1), (false, 0, 1, 0xAAAA, 0xBBBB, 1), (true, 1, 0x3E, 0xBBBB, 0xAAAA, 0x3E),
        (true, 1, 1, 0xAAAA, 0xBBBB, 1)] :
        List (Bool × BitVec 6 × Word × Word × Word × BitVec 6)).all fun p =>
        decide (((after (.wrctlIctl p.2.2.1)
            { user with pal := p.1, ictl := p.2.1, x := user.x.set 4 0xAAAA, sh := user.sh.set 0 0xBBBB }).map
          fun t => (t.readX 4, t.sh.getD 0 0, t.ictl)) = some p.2.2.2)) = true := by decide +kernel

/-- R174's example, on both streams. -/
theorem test_wrctl_pte :
    ((after (.wrctlDtbPte 0x0000005500001901) { user with dtbTag := 0x12345, asn := 5 }).map fun t =>
        (t.dtb, t.itb, t.dtbTag)) = some (cache [entry8], Tlb.empty, 0x12345) ∧
      ((after (.wrctlItbPte 0x0000005500001901) { user with itbTag := 0x12345, asn := 5 }).map fun t =>
        (t.itb, t.dtb, t.itbTag)) = some (cache [entry8], Tlb.empty, 0x12345) := by decide +kernel

/-- V47, V12 and R173: the flush registers, their own streams and their events. -/
theorem test_wrctl_flushes :
    ∀ p ∈ ([(.wrctlItbIa 0, [.icacheInvalAll], 1, 2), (.wrctlDtbIa 0, [.icacheInvalAll], 2, 1),
        (.wrctlItbIap 0, [.icacheInvalAll], 1, 2), (.wrctlDtbIap 0, [.icacheInvalAll], 2, 1),
        (.wrctlItbIs 0x13FFF, [.icacheInvalPage 0x12000], 1, 2), (.wrctlDtbIs 0x13FFF, [.icacheInvalPage 0x12000], 2, 1)] :
        List (Instr × List Event × Nat × Nat)),
      events p.1 (withD [entry8, live 0 1 0x1111 0] (withI [entry8, live 0 1 0x1111 0] user)) = some p.2.1 ∧
        ((after p.1 (withD [entry8, live 0 1 0x1111 0] (withI [entry8, live 0 1 0x1111 0] user))).map fun t =>
          decide ((t.itb.slots.filter fun e => e.live).length ≤ p.2.2.1 ∧
            (t.dtb.slots.filter fun e => e.live).length ≤ p.2.2.2)) = some true := by decide +kernel

/-! ## The dispatcher (R200 to R212) -/

/-- R201's example, V56 and the four generic codes. -/
theorem test_raise :
    ((after (.raiseGArith 0x40) user).map fun t => (t.excCond, t.excAux, t.excSum)) =
        some (some (.generic .arith), 0x40, 0x40) ∧
      ((after (.raiseGOpcdec 7) user).map fun t => (t.excCond, t.excAux, t.excSum)) = some (some (.generic .opcdec), 7, 0) ∧
      ((after (.raiseGFen 7) user).map fun t => t.excCond) = some (some (.generic .fen)) ∧
      ((after (.raiseGInterrupt 7) user).map fun t => t.excCond) = some (some (.generic .interrupt)) ∧
      ((after (.raiseV 0x300 7) user).map fun t => t.excCond) = some (some (.vectored 0x300)) ∧
      refusal (.raiseGFen 0) { user with excCond := some (.vectored 0x300) } = some .conditionAlreadyRaised := by
  decide +kernel

/-- V49 to V55: the exception address, the pc and the mode. -/
theorem test_dispatch :
    (∀ p ∈ ([(.vectored 0x300, false, 0x20001000, 0x8300), (.vectored 0x300, true, 0x20001001, 0x8300),
        (.generic .opcdec, false, 0x20001000, 0x8400), (.generic .arith, false, 0x20001000, 0x8600),
        (.generic .fen, false, 0x20001000, 0x8200), (.generic .interrupt, false, 0x20001000, 0x8680)] :
        List (Condition × Bool × Word × Word)),
      ((after .dispatch { user with excCond := some p.1, pal := p.2.1 }).map fun t => (t.excAddr, t.pc, t.pal, t.excCond)) =
        some (p.2.2.1, p.2.2.2, true, none)) ∧
      refusal .dispatch user = some .nothingRaised := by decide +kernel

/-- V62, V63, V64, and R204 with R205: the link goes to the shadow bank when the swap has taken place. -/
theorem test_dispatch_banks :
    (([(2, 0x2000, 0x1000, 0), (0, 0x2000, 0xCCCC, 0), (2, 0x1FC0, 0xCCCC, 0), (3, 0x2000, 0x1000, 0xCCCC),
        (1, 0x300, 0, 0xCCCC)] :
        List (BitVec 6 × Offset × Word × Word)).all fun p =>
        decide (((after .dispatch
            { user with excCond := some (.vectored p.2.1), ictl := p.1, pc := 0x1000, x := user.x.set 23 0xCCCC }).map
          fun t => (t.readX 23, t.sh.getD 7 0)) = some p.2.2)) = true := by decide +kernel

/-- V57 to V61. -/
theorem test_palret :
    refusal (.palret 0x1000) user = some .notPrivileged ∧
      ((after (.palret 0x20001003) State.reset).map fun t => (t.pc, t.pal)) = some (0x20001000, true) ∧
      ((after (.palret 0x20001002) State.reset).map fun t => (t.pc, t.pal, t.xlateCtx)) =
        some (0x20001000, false, .normal) ∧
      ((after (.palret 0x20001000) { user with pal := true, ier := 0x1000000000, ipend := 0x1000000000 }).map fun t =>
        (t.excAddr, t.pc, t.pal)) = some (0x20001000, 0x8680, true) ∧
      ((after (.palret 0x9001) { user with pal := true, ier := 0x1000000000, ipend := 0x1000000000 }).map fun t =>
        (t.pc, t.pal)) = some (0x9000, true) := by decide +kernel

/-- R208: the swap back, and none on a return that stays privileged (the last row of the register port's table). -/
theorem test_palret_banks :
    ((after (.palret 0x1000) { State.reset with ictl := 1, x := State.reset.x.set 4 7, sh := State.reset.sh.set 0 9 }).map
        fun t => (t.readX 4, t.sh.getD 0 0)) = some (9, 7) ∧
      ((after (.palret 0x1001) { State.reset with ictl := 1, x := State.reset.x.set 4 7, sh := State.reset.sh.set 0 9 }).map
        fun t => (t.readX 4, t.sh.getD 0 0)) = some (7, 9) := by decide +kernel

/-- V66, V67. -/
theorem test_irq :
    ((after (.irq 0x3F) { user with ier := 0x7E00000000 }).map fun t => (t.ipend, t.irqLine)) = some (0x7E00000000, true) ∧
      ((after (.irq 0) { user with ier := 0x7E00000000, ipend := 0x7E00000000 }).map fun t => (t.ipend, t.irqLine)) =
        some (0, false) ∧
      ((after (.irq 0x01) { user with ipend := 0x4000 }).map fun t => t.ipend) = some 0x200004000 := by decide +kernel

/-- V65. -/
theorem test_rs_rc :
    (outcome .rs user = value 0 ∧ outcome .rs { user with intrFlag := true } = value 1) ∧
      (outcome .rc user = value 0 ∧ outcome .rc { user with intrFlag := true } = value 1) ∧
      ((after .rs user).map fun t => t.intrFlag) = some true ∧
      ((after .rc { user with intrFlag := true }).map fun t => t.intrFlag) = some false := by decide +kernel

/-! ## The codec (R231 to R244): the table of 95_test_vectors.md -/

/-- CVTSF. -/
theorem test_cvtsf :
    (([(0x3F800000, 0x4010000000000000), (0xC0200000, 0xC024000000000000), (0x3E800000, 0x3FF0000000000000),
        (0x7EFFFFFF, 0x47FFFFFFE0000000), (0x7F000000, 0x0010000000000000), (0x7FC00000, 0x0010000000000000),
        (0x00000001, 0), (0x80000000, 0)] :
        List (Word32 × Word)).all fun p =>
        decide (outcome (.cvtsf p.1) user = value p.2)) = true := by decide +kernel

/-- CVTFS, with its reserved operands. -/
theorem test_cvtfs :
    (([(0x4010000000000000, 0x3F800000), (0x401000001FFFFFFF, 0x3F800000), (0x7FFFFFFFE0000000, 0x7EFFFFFF),
        (0x0780000000000000, 0x3B000000), (0x3830000000000000, 0x00800000), (0x3820000000000000, 0), (0, 0)] :
        List (Word × Word)).all fun p =>
        decide (outcome (.cvtfs p.1) user = value p.2)) = true ∧
      outcome (.cvtfs 0x8000000000000000) user = some (.fault (.generic .opcdec)) ∧
      outcome (.cvtfs 0x0000000020000000) user = some (.fault (.generic .opcdec)) := by decide +kernel

/-- CVTTG. -/
theorem test_cvttg :
    (([(0x3FF0000000000000, 0x4010000000000000), (0xBFE0000000000000, 0xC000000000000000),
        (0x0010000000000000, 0x0030000000000000), (0x7FDFFFFFFFFFFFFF, 0x7FFFFFFFFFFFFFFF),
        (0x7FE0000000000000, 0x0010000000000000), (0xFFF8000000000000, 0x0010000000000000), (0x8000000000000000, 0)] :
        List (Word × Word)).all fun p =>
        decide (outcome (.cvttg p.1) user = value p.2)) = true := by decide +kernel

/-- CVTGT, with a reserved operand. -/
theorem test_cvtgt :
    (([(0x4010000000000000, 0x3FF0000000000000), (0x7FFFFFFFFFFFFFFF, 0x7FDFFFFFFFFFFFFF),
        (0x0030000000000000, 0x0010000000000000), (0x8010000000000000, 0)] :
        List (Word × Word)).all fun p =>
        decide (outcome (.cvtgt p.1) user = value p.2)) = true ∧
      outcome (.cvtgt 0x000FFFFFFFFFFFFF) user = some (.fault (.generic .opcdec)) := by decide +kernel

/-- LDS. -/
theorem test_lds :
    (([(0x3F800000, 0x3FF0000000000000), (0x40000000, 0x4000000000000000), (0xC0200000, 0xC004000000000000),
        (0x00000001, 0x3800000020000000), (0x7F800000, 0x47F0000000000000), (0xFFC00001, 0xC7F8000020000000)] :
        List (Word32 × Word)).all fun p =>
        decide (outcome (.lds p.1) user = value p.2)) = true := by decide +kernel

/-- STS. -/
theorem test_sts :
    (([(0x3FF0000000000000, 0x3F800000), (0xC7F8000020000000, 0xFFC00001), (0xFFFFFFFFFFFFFFFF, 0xFFFFFFFF)] :
        List (Word × Word)).all fun p =>
        decide (outcome (.sts p.1) user = value p.2)) = true := by decide +kernel

/-- LDT and STT. -/
theorem test_ldt_stt :
    outcome (.ldt 0x8123456789ABCDEF) user = value 0x8123456789ABCDEF ∧
      outcome (.stt 0x8123456789ABCDEF) user = value 0x8123456789ABCDEF := by decide +kernel

/-! ## Overflow-checked arithmetic (R260 to R266): the table of 95_test_vectors.md -/

/-- ADDLV. -/
theorem test_addlv :
    (([(0x7FFFFFFE, 0x1, 0x7FFFFFFF), (0xFFFFFFFF, 0x1, 0),
        (0x123456787FFFFFFF, 0xABCDEF0080000000, 0xFFFFFFFFFFFFFFFF)] :
        List (Word × Word × Word)).all fun p =>
        decide (outcome (.addlv p.1 p.2.1) user = value p.2.2)) = true ∧
      (([(0x7FFFFFFF, 0x1), (0x80000000, 0xFFFFFFFF)] :
        List (Word × Word)).all fun p =>
        decide (trapped (.addlv p.1 p.2) user = some (some (.generic .arith), 0x40))) = true := by decide +kernel

/-- SUBLV. -/
theorem test_sublv :
    (([(0x5, 0x7, 0xFFFFFFFFFFFFFFFE), (0x80000000, 0x80000000, 0)] :
        List (Word × Word × Word)).all fun p =>
        decide (outcome (.sublv p.1 p.2.1) user = value p.2.2)) = true ∧
      (([(0x80000000, 0x1), (0x0, 0x80000000), (0x7FFFFFFF, 0xFFFFFFFF)] :
        List (Word × Word)).all fun p =>
        decide (trapped (.sublv p.1 p.2) user = some (some (.generic .arith), 0x40))) = true := by decide +kernel

/-- MULLV. -/
theorem test_mullv :
    (([(0xFFFFFFFF, 0xFFFFFFFF, 1), (0x10000, 0xFFFF8000, 0xFFFFFFFF80000000), (0xB504, 0xB504, 0x7FFEA810)] :
        List (Word × Word × Word)).all fun p =>
        decide (outcome (.mullv p.1 p.2.1) user = value p.2.2)) = true ∧
      (([(0x10000, 0x8000), (0x80000000, 0xFFFFFFFF), (0xB505, 0xB505)] :
        List (Word × Word)).all fun p =>
        decide (trapped (.mullv p.1 p.2) user = some (some (.generic .arith), 0x40))) = true := by decide +kernel

/-- ADDQV. -/
theorem test_addqv :
    (([(0x7FFFFFFFFFFFFFFF, 0x8000000000000000, 0xFFFFFFFFFFFFFFFF),
        (0x8000000000000001, 0xFFFFFFFFFFFFFFFF, 0x8000000000000000), (0xFFFFFFFFFFFFFFFF, 0x1, 0)] :
        List (Word × Word × Word)).all fun p =>
        decide (outcome (.addqv p.1 p.2.1) user = value p.2.2)) = true ∧
      (([(0x7FFFFFFFFFFFFFFF, 0x1), (0x8000000000000000, 0xFFFFFFFFFFFFFFFF), (0x8000000000000000, 0x8000000000000000)] :
        List (Word × Word)).all fun p =>
        decide (trapped (.addqv p.1 p.2) user = some (some (.generic .arith), 0x40))) = true := by decide +kernel

/-- SUBQV. -/
theorem test_subqv :
    (([(0x8000000000000000, 0x8000000000000000, 0), (0xFFFFFFFFFFFFFFFF, 0x7FFFFFFFFFFFFFFF, 0x8000000000000000),
        (0x0, 0x1, 0xFFFFFFFFFFFFFFFF)] :
        List (Word × Word × Word)).all fun p =>
        decide (outcome (.subqv p.1 p.2.1) user = value p.2.2)) = true ∧
      (([(0x8000000000000000, 0x1), (0x0, 0x8000000000000000), (0x7FFFFFFFFFFFFFFF, 0xFFFFFFFFFFFFFFFF)] :
        List (Word × Word)).all fun p =>
        decide (trapped (.subqv p.1 p.2) user = some (some (.generic .arith), 0x40))) = true := by decide +kernel

/-- MULQV. -/
theorem test_mulqv :
    (([(0x8000000000000000, 0x1, 0x8000000000000000), (0x100000000, 0xFFFFFFFF80000000, 0x8000000000000000),
        (0xB504F333, 0xB504F333, 0x7FFFFFFE9EA1DC29)] :
        List (Word × Word × Word)).all fun p =>
        decide (outcome (.mulqv p.1 p.2.1) user = value p.2.2)) = true ∧
      (([(0x8000000000000000, 0xFFFFFFFFFFFFFFFF), (0x100000000, 0x80000000), (0xB504F334, 0xB504F334)] :
        List (Word × Word)).all fun p =>
        decide (trapped (.mulqv p.1 p.2) user = some (some (.generic .arith), 0x40))) = true := by decide +kernel

/-! ## The register port (R280 to R283) and the pseudo-commands (R90) -/

/-- The table of the register port. -/
theorem test_register_port :
    ((after (.wrgpr 4 0x1234) user).map fun t => outcome (.rdgpr 4) t) = some (value 0x1234) ∧
      ((after (.wrgpr 31 0x1234) user).map fun t => outcome (.rdgpr 31) t) = some (value 0) ∧
      ((after (.wrpc 0x123456789ABCDEF3) user).map fun t => outcome .rdpc t) = some (value 0x123456789ABCDEF3) := by
  decide +kernel

/-- `ITBFILL`, `DTBFILL` and `TAKEIRQ`. -/
theorem test_pseudo_commands :
    (match execAll (dtbFill 0x12345 0x0000005500001901) { user with asn := 5 } with
      | .next t => decide (t.dtb = cache [entry8])
      | .fault _ => false
      | .refused _ => false) = true ∧
      (match takeIrq { user with ier := 0x1000000000, ipend := 0x1000000000 } with
        | .next t => decide (t.pc = 0x8680 ∧ t.pal = true ∧ t.ipend = 0x1000000000 ∧ t.irqLine = false)
        | .fault _ => false
        | .refused _ => false) = true := by decide +kernel

/-! ## The hypotheses of the statements: checks that decide them on concrete states -/

/-- `TlbInv`, as a check. -/
def tlbCheck (c : Config) (t : Tlb) : Bool :=
  decide (t.slots.length = Config.tlbEntries) && decide (t.next < Config.tlbEntries) &&
    t.slots.all fun e =>
      decide (e.ppn &&& ~~~(lowMask (c.paBits - c.pageShift)) = 0) && decide (e.asn &&& ~~~(lowMask c.asnBits) = 0) &&
        (!e.live || decide (e.flags &&& 0x0088 = 0) && decide (e.tag &&& lowMask c.pageShift = 0))

/-- What the check says. -/
theorem tlbInv_of_check {c : Config} {t : Tlb} (h : tlbCheck c t = true) : TlbInv c t := by
  simp only [tlbCheck, Bool.and_eq_true, decide_eq_true_eq, List.all_eq_true, Bool.or_eq_true, Bool.not_eq_true'] at h
  obtain ⟨⟨size, next⟩, each⟩ := h
  refine ⟨size, next, fun e he => ⟨(each e he).1.1, (each e he).1.2⟩, fun e he live => ?_⟩
  rcases (each e he).2 with dead | shape
  · simp [dead] at live
  · exact ⟨shape.1, shape.2⟩

/-- The scalar clauses of the invariant, as a check. -/
def scalarCheck (s : State) : Bool :=
  s.cfg.wf && decide (s.x.length = s.cfg.ngpr ∧ s.f.length = s.cfg.nfpr ∧ s.sh.length = 8) &&
    decide (s.xlateCtx = .pal ↔ s.pal = true) &&
    decide (s.asn &&& ~~~(lowMask s.cfg.asnBits) = 0 ∧ s.ier &&& ~~~(ierMask s.cfg) = 0 ∧
      s.sirr &&& ~~~s.cfg.swintMask = 0 ∧ s.ipend &&& ~~~(ierMask s.cfg) = 0 ∧
      s.ipend &&& s.cfg.swintMask = s.sirr ∧ s.dctl &&& 3 = 0)

/-- What the checks say. -/
theorem inv_of_check {s : State} (h : (scalarCheck s && tlbCheck s.cfg s.itb && tlbCheck s.cfg s.dtb) = true) : s.Inv := by
  simp only [scalarCheck, Bool.and_eq_true, decide_eq_true_eq] at h
  obtain ⟨⟨⟨⟨⟨cfg, x, f, sh⟩, ctx⟩, asn, ier, sirr, ipend, software, dctl⟩, itb⟩, dtb⟩ := h
  exact ⟨cfg, x, f, sh, ctx, asn, ier, sirr, ipend, software, dctl, tlbInv_of_check itb, tlbInv_of_check dtb⟩

/-- A canonical address, from a bounded check. -/
theorem highBits_of_check {w : Nat} {va : Word}
    (h : ((List.range 64).all fun i => decide (w - 1 ≤ i → va.getLsbD i = va.getLsbD 63)) = true) : HighBitsEqual w va := by
  intro i lo hi
  have each := List.all_eq_true.mp h i (List.mem_range.mpr hi)
  exact of_decide_eq_true each lo

/-- The answer of XLATE, from the translation. -/
theorem xlateAnswers_of {k : Kind} {va : Word} {s : State} {r : Translation} (h : xlateOf k va s = r) :
    XlateAnswers k va s r := by
  subst h
  rfl

/-- A command that answers a state of which a test holds. -/
theorem next_of_after {i : Instr} {s : State} {P : State → Prop} [∀ t, Decidable (P t)]
    (h : ((after i s).map fun t => decide (P t)) = some true) : ∃ t, exec i s = .next t ∧ P t := by
  unfold after at h
  split at h <;> simp_all

/-- A canonical address outside every enabled window reaches the lookup. -/
theorem reaches_of_check {k : Kind} {va : Word} {s : State} (mode : s.xlateCtx = .normal)
    (high : ((List.range 64).all fun i =>
      decide (s.vaWidth (streamOf k) - 1 ≤ i → va.getLsbD i = va.getLsbD 63)) = true)
    (off : ((List.range 3).all fun n => !(s.spe (streamOf k) n && windowMatch s.cfg n va)) = true) : ReachesLookup k va s := by
  refine ⟨⟨fun h => ?_, highBits_of_check high⟩, fun n hn applies => ?_⟩
  · rw [mode] at h
    exact absurd h.2 (by decide)
  · have each := List.all_eq_true.mp off n (List.mem_range.mpr hn)
    simp [applies.1, applies.2] at each

/-- A running state that meets the invariant: ASN 5, interrupts enabled and pending, shadow and call modes on, both caches in
use (`entry8`, a page faulting on read and write, an entry not valid, a global page of 64 base pages). -/
def running : State :=
  { user with
    asn := 5, ier := 0x1000004000, ipend := 0x1000004000, sirr := 0x4000, ictl := 0x03, dctl := 0x04
    itb := cache [live 0x4000 7 0x0101 5]
    dtb := cache [live 0x4000 7 0x1107 5, live 0x6000 1 0x1100 5, entry8, live 0x200000 0x1FF 0x1151 3] }

/-- It meets the invariant. -/
theorem running_inv : running.Inv := inv_of_check (by decide +kernel)

/-! ## Witnesses: a state and operands that meet a statement's hypotheses -/

/-- Another input waits behind the command. -/
theorem witness_StepRunsTheOldestCommand :
    { user with inputs := [.command ⟨0x33000000, 4, 0, 0, false⟩, .reset] }.inputs =
        .command ⟨0x33000000, 4, 0, 0, false⟩ :: [.reset] ∧
      decode ⟨0x33000000, 4, 0, 0, false⟩ = .instr (.wrpc 4) := ⟨rfl, by decide +kernel⟩

/-- A waiting command; an illegal and a legal record on each side of R86's boundaries are in `test_illegal_words` and
`test_operands_come_from_the_ports`. -/
theorem witness_IllegalCommandsAreExactlyRule86 :
    { user with inputs := [.command ⟨0x18000000, 0x10000, 0, 0, false⟩] }.inputs =
        .command ⟨0x18000000, 0x10000, 0, 0, false⟩ :: [] ∧
      decode ⟨0x18000000, 0x10000, 0, 0, false⟩ = .illegal .offsetTooWide ∧
      decode ⟨0x18000000, 0xFFFF, 0, 0, false⟩ = .instr (.raiseV 0xFFFF 0) := ⟨rfl, by decide +kernel, by decide +kernel⟩

/-- The catch-all rows at the ids next to the table's, and operands at the ends of their ranges. -/
theorem witness_DecodingAnEncodedCommandGivesItBack :
    ([.rdctlOther 0x15, .rdctlOther 0x17, .rdctlOther 0x1D, .wrctlOther 0xFF 0, .wrgpr 31 0xFFFFFFFFFFFFFFFF, .rdgpr 0,
      .raiseV 0xFFFF 0, .memx .execute 0 (some 0xFFFFFFFF), .memx .read 0 none] : List Instr).all WellFormed = true := by
  decide +kernel

/-- Words of a plain row and of a catch-all row. -/
theorem witness_DecodedCommandsReencodeToTheirWord :
    decode ⟨0x10FF0000, 1, 2, 3, true⟩ = .instr (.rdctlOther 0xFF) ∧
      decode ⟨0x301F0000, 1, 2, 3, true⟩ = .instr (.rdgpr 31) := by decide +kernel

/-- The contract kept and broken, for each clause of R88's preconditions. -/
theorem witness_CommandsCompleteExactlyUnderTheContract :
    (Contract .dispatch { user with excCond := some (.generic .fen) } ∧ ¬Contract .dispatch user) ∧
      (Contract (.palret 1) State.reset ∧ ¬Contract (.palret 1) user) ∧
      (Contract (.raiseV 0xFFFF 0) user ∧ ¬Contract (.raiseV 0 0) { user with excCond := some (.generic .fen) }) ∧
      (Contract (.memx .read 0x6000 (some 0)) user ∧ ¬Contract (.memx .read 0x6000 none) user) ∧
      (Contract (.memx .execute 0x6000 none) user ∧
        ¬Contract (.memx .execute 0x6000 none) { user with excCond := some (.generic .fen) }) ∧
      (Contract (.addqv 1 1) { user with excCond := some (.generic .fen) } ∧
        ¬Contract (.addqv 0x7FFFFFFFFFFFFFFF 1) { user with excCond := some (.generic .fen) }) := by
  have miss : xlateOf .read 0x6000 user = .err (.miss false) := by decide +kernel
  have missRaised : xlateOf .execute 0x6000 { user with excCond := some (.generic .fen) } = .err (.miss false) := by
    decide +kernel
  refine ⟨⟨by simp [Contract], by simp [Contract, user, State.reset, State.resetWith]⟩, ⟨rfl, by simp [Contract, user]⟩,
    ⟨rfl, by simp [Contract]⟩, ⟨fun r _ => ⟨rfl, .inr (by simp)⟩, fun h => ?_⟩,
    ⟨fun r _ => ⟨rfl, .inl rfl⟩, fun h => ?_⟩, ?_, ?_⟩
  · simpa using (h _ miss).2
  · simpa using (h _ missRaised).1
  · exact fun h => absurd h (by decide +kernel)
  · exact fun h => absurd (h (by decide +kernel)) (by simp)

/-- The invariant in a running state, and a step from it. -/
theorem witness_EveryStepKeepsTheInvariant :
    { running with inputs := [.command ⟨0x02000100, 0x12000, 0, 0, false⟩] }.Inv ∧
      ∃ t, step { running with inputs := [.command ⟨0x02000100, 0x12000, 0, 0, false⟩] } = .next t := by
  refine ⟨inv_of_check (by decide +kernel), ?_⟩
  exact ⟨_, rfl⟩

/-- The default configuration is well formed, and so is one at the ends of the widths. -/
theorem witness_ResetMeetsTheInvariant :
    Config.default.wf = true ∧
      { Config.default with paBits := 45, asnBits := 64, gh3Shift := 50, hwintShift := 58, swintMask := 0 }.wf = true := by
  decide +kernel

/-- The reset input, with another behind it. -/
theorem witness_ResetInputGivesTheSpecifiedValues :
    { running with inputs := [.reset, .reset] }.inputs = .reset :: [.reset] := rfl

/-- A command of each kind of outcome. -/
theorem witness_NoCommandTouchesFloatingRegisters :
    (∃ t, exec (.cvtsf 0x3F800000) running = .next t ∧ t.pc = 0x20001000) ∧
      ∃ t, exec (.raiseGFen 0) running = .next t ∧ t.excCond = some (.generic .fen) :=
  ⟨next_of_after (by decide +kernel), next_of_after (by decide +kernel)⟩

/-- An entry of one ASN found under it, and a live global entry. -/
theorem witness_OnlyGlobalEntriesMatchUnderAnotherAsn :
    (running.dtb.lookup Config.default 0x12000 5 = some (2, entry8) ∧ entry8.flags.getLsbD 4 = false) ∧
      live 0x200000 0x1FF 0x1151 3 ∈ running.dtb.slots ∧ (live 0x200000 0x1FF 0x1151 3).flags.getLsbD 4 = true ∧
      (live 0x200000 0x1FF 0x1151 3).tag >>> (live 0x200000 0x1FF 0x1151 3).pageShift Config.default =
        0x27FFFF#64 >>> (live 0x200000 0x1FF 0x1151 3).pageShift Config.default := by decide +kernel

/-- The last slot is the next one. -/
theorem witness_TbinsWritesTheNextSlot :
    { running with dtb := { running.dtb with next := 127 } }.Inv := inv_of_check (by decide +kernel)

/-- The ends of the canonical range of 43 bits, under the current ASN and, with a global entry, another. -/
theorem witness_LookupAfterInsertFindsAnEntry :
    running.Inv ∧ HighBitsEqual (running.vaWidth .i) 0x3FFFFFFFFFF ∧ HighBitsEqual (running.vaWidth .i) 0xFFFFFC0000000000 ∧
      HighBitsEqual (running.vaWidth .d) 0xFFFF800000000000 ∧
      ((5 : Word) = running.asn ∨ (0x1101 : Word).getLsbD 4 = true) ∧
      ((9 : Word) = running.asn ∨ (0x1111 : Word).getLsbD 4 = true) :=
  ⟨running_inv, highBits_of_check (by decide +kernel), highBits_of_check (by decide +kernel),
    highBits_of_check (by decide +kernel), .inl rfl, .inr (by decide)⟩

/-- A hit that survives TBIAP. -/
theorem witness_TbiapKeepsExactlyGlobalEntries :
    ∃ t, exec (.tbiap .d) running = .next t ∧
      (t.dtb.lookup t.cfg 0x27FFFF 9 = some (3, live 0x200000 0x1FF 0x1151 3) ∧ t.dtb.lookup t.cfg 0x12000 5 = none) :=
  next_of_after (by decide +kernel)

/-- The first and the last byte of the operand's base page; both reaches; and, of the page of 64 base pages with the operand at
its start, the last byte of its range, which no other live entry holds. -/
theorem witness_TbisRemovesEveryCoveringEntry :
    (0x12000#64 >>> running.cfg.pageShift = 0x13FFF#64 >>> running.cfg.pageShift) ∧
      running.cfg.flushReach = .covering ∧ { running.cfg with flushReach := .wholeRange }.flushReach = .wholeRange ∧
      live 0x200000 0x1FF 0x1151 3 ∈ (running.tlb .d).slots ∧ Holds running.cfg (live 0x200000 0x1FF 0x1151 3) 0x200000 ∧
      0x27FFFF#64 >>> (live 0x200000 0x1FF 0x1151 3).pageShift running.cfg =
        (live 0x200000 0x1FF 0x1151 3).tag >>> (live 0x200000 0x1FF 0x1151 3).pageShift running.cfg ∧
      ((running.tlb .d).slots.all fun a =>
        decide (Holds running.cfg a 0x27FFFF → ¬Holds running.cfg a 0x200000 →
          (live 0x200000 0x1FF 0x1151 3).pageShift running.cfg ≤ a.pageShift running.cfg)) = true := by decide +kernel

/-- Both clauses: the privileged context, and an answer to Read and to Write. -/
theorem witness_PrivilegedFetchIsPhysical :
    State.reset.xlateCtx = .pal ∧ Kind.read ≠ .execute ∧ Kind.write ≠ .execute ∧
      XlateAnswers .read 0x12345 running (.ok 0xAA345 ⟨true, true, true⟩) ∧
      XlateAnswers .write 0x6000 running (.err (.miss true)) :=
  ⟨rfl, by decide, by decide, xlateAnswers_of (by decide +kernel), xlateAnswers_of (by decide +kernel)⟩

/-- Kinds in normal mode and Read in privileged mode, with addresses on each side of both boundaries. -/
theorem witness_BadVirtualAddressExactlyWhenNotCanonical :
    (¬(Kind.execute = .execute ∧ running.xlateCtx = .pal) ∧ ¬(Kind.read = .execute ∧ State.reset.xlateCtx = .pal)) ∧
      (HighBitsEqual 43 0x3FFFFFFFFFF ∧ ¬HighBitsEqual 43 0x40000000000) ∧
      HighBitsEqual 48 0x7FFFFFFFFFFF ∧ ¬HighBitsEqual 48 0x800000000000 :=
  ⟨by decide, ⟨highBits_of_check (by decide +kernel), fun h => absurd (h 42 (by decide) (by decide)) (by decide)⟩,
    highBits_of_check (by decide +kernel), fun h => absurd (h 47 (by decide) (by decide)) (by decide)⟩

/-- All three windows of the data stream enabled. -/
def windowed (m : BitVec 2) : State := { user with dctl := 0x3C, cm := m }

/-- The three hypotheses of a window, from bounded checks. -/
theorem window_of_check {n : Nat} {va : Word} {s : State}
    (high : ((List.range 64).all fun i => decide (s.vaWidth .d - 1 ≤ i → va.getLsbD i = va.getLsbD 63)) = true)
    (here : s.spe .d n = true ∧ windowMatch s.cfg n va = true)
    (larger : ((List.range 3).all fun m => decide (m ≤ n) || !windowMatch s.cfg m va) = true) :
    PassesCanonicalTest .read va s ∧ WindowApplies .read va s n ∧ ∀ m, n < m → m < 3 → ¬WindowApplies .read va s m := by
  refine ⟨⟨by simp, highBits_of_check high⟩, here, fun m lo hi applies => ?_⟩
  have each := List.all_eq_true.mp larger m (List.mem_range.mpr hi)
  simp [applies.2, Nat.not_le.mpr lo] at each

/-- Each window as the largest that applies, at an end of its range, in mode 0 and in another. -/
theorem witness_LargestMatchingWindowDecides :
    ((windowed 0).cm = 0 ∧ (windowed 3).cm ≠ 0) ∧
      (PassesCanonicalTest .read 0xFFFFFFFFBFFFFFFF (windowed 0) ∧ WindowApplies .read 0xFFFFFFFFBFFFFFFF (windowed 0) 0 ∧
        ∀ m, 0 < m → m < 3 → ¬WindowApplies .read 0xFFFFFFFFBFFFFFFF (windowed 0) m) ∧
      (PassesCanonicalTest .read 0xFFFFFC0000000000 (windowed 3) ∧ WindowApplies .read 0xFFFFFC0000000000 (windowed 3) 1 ∧
        ∀ m, 1 < m → m < 3 → ¬WindowApplies .read 0xFFFFFC0000000000 (windowed 3) m) ∧
      PassesCanonicalTest .read 0xFFFFBFFFFFFFFFFF (windowed 3) ∧ WindowApplies .read 0xFFFFBFFFFFFFFFFF (windowed 3) 2 ∧
        ∀ m, 2 < m → m < 3 → ¬WindowApplies .read 0xFFFFBFFFFFFFFFFF (windowed 3) m :=
  ⟨by decide, window_of_check (by decide +kernel) (by decide +kernel) (by decide +kernel),
    window_of_check (by decide +kernel) (by decide +kernel) (by decide +kernel),
    window_of_check (by decide +kernel) (by decide +kernel) (by decide +kernel)⟩

/-- No answer in an empty cache, and a first answer that is not valid. -/
theorem witness_MissesTellWhetherAnEntryExisted :
    (ReachesLookup .read 0x6000 user ∧ ∀ e ∈ (user.tlb .d).slots, ¬Answers user.cfg e 0x6000 user.asn) ∧
      ReachesLookup .write 0x7FFF running ∧
      FirstAnswer running.cfg (running.tlb .d) 0x7FFF running.asn 1 (live 0x6000 1 0x1100 5) ∧
      (live 0x6000 1 0x1100 5).flags.getLsbD 0 = false := by
  refine ⟨⟨reaches_of_check rfl (by decide +kernel) (by decide +kernel), fun e he => ?_⟩,
    reaches_of_check rfl (by decide +kernel) (by decide +kernel), ⟨by decide +kernel, ?_, fun j hj a ha => ?_⟩,
    by decide +kernel⟩
  · have dead : ∀ e ∈ (user.tlb .d).slots, e.live = false := by
      intro e he
      rw [List.eq_of_mem_replicate (show e ∈ List.replicate 128 Slot.empty from he)]
      rfl
    exact fun h => absurd h.1 (by simp [dead e he])
  · exact ⟨rfl, by decide +kernel, .inr (by decide +kernel)⟩
  · obtain rfl : j = 0 := by omega
    obtain rfl : live 0x4000 7 0x1107 5 = a := Option.some.inj ha
    exact fun h => absurd h.2.1 (by decide +kernel)

/-- The first answer in slot 0, which all the kinds of denial start from. -/
theorem running_firstAnswer :
    FirstAnswer running.cfg (running.tlb .d) 0x4000 running.asn 0 (live 0x4000 7 0x1107 5) :=
  ⟨by decide +kernel, ⟨rfl, by decide +kernel, .inr (by decide +kernel)⟩, fun j hj => absurd hj (Nat.not_lt_zero j)⟩

/-- Denied by each cause: `FOR` on a Read, `FOW` on a Write, the read enable of mode 1 on a Read and on an Execute. -/
theorem witness_DeniedAccessNamesItsCauses :
    ReachesLookup .read 0x4000 running ∧ ReachesLookup .write 0x4000 running ∧
      FirstAnswer running.cfg (running.tlb .d) 0x4000 running.asn 0 (live 0x4000 7 0x1107 5) ∧
      ((live 0x4000 7 0x1107 5).flags.getLsbD 0 = true ∧ (live 0x4000 7 0x1107 5).flags.getLsbD 1 = true ∧
        (live 0x4000 7 0x1107 5).flags.getLsbD 2 = true ∧ EnableClear .read (live 0x4000 7 0x1107 5) 1 ∧
        EnableClear .write (live 0x4000 7 0x1107 5) 3) ∧
      ReachesLookup .execute 0x4000 { running with cm := 1 } ∧
      FirstAnswer running.cfg ({ running with cm := 1 }.tlb .i) 0x4000 running.asn 0 (live 0x4000 7 0x0101 5) ∧
      EnableClear .execute (live 0x4000 7 0x0101 5) { running with cm := 1 }.cm :=
  ⟨reaches_of_check rfl (by decide +kernel) (by decide +kernel), reaches_of_check rfl (by decide +kernel) (by decide +kernel),
    running_firstAnswer, ⟨by decide, by decide, by decide, by simp [EnableClear, ReadEnabled, live],
      by simp [EnableClear, WriteEnabled, live]⟩,
    reaches_of_check rfl (by decide +kernel) (by decide +kernel),
    ⟨by decide +kernel, ⟨rfl, by decide +kernel, .inr (by decide +kernel)⟩, fun j hj => absurd hj (Nat.not_lt_zero j)⟩,
    by simp [EnableClear, ReadEnabled, live]⟩

/-- Allowed: a Read through slot 2 and, in the instruction stream, an Execute through slot 0. -/
theorem witness_AllowedAccessGivesAddressAndCapabilities :
    (ReachesLookup .execute 0x5FFF running ∧
      FirstAnswer running.cfg (running.tlb .i) 0x5FFF running.asn 0 (live 0x4000 7 0x0101 5) ∧
      (live 0x4000 7 0x0101 5).flags.getLsbD 0 = true ∧ ¬EnableClear .execute (live 0x4000 7 0x0101 5) running.cm) ∧
      ReachesLookup .write 0x12000 { running with dtb := cache [entry8] } ∧
      FirstAnswer running.cfg (cache [entry8]) 0x12000 running.asn 0 entry8 ∧ entry8.flags.getLsbD 0 = true ∧
      ¬(EnableClear .write entry8 running.cm ∨ (Kind.write = .read ∧ entry8.flags.getLsbD 1 = true) ∨
        (Kind.write = .write ∧ entry8.flags.getLsbD 2 = true)) :=
  ⟨⟨reaches_of_check rfl (by decide +kernel) (by decide +kernel),
      ⟨by decide +kernel, ⟨rfl, by decide +kernel, .inr (by decide +kernel)⟩, fun j hj => absurd hj (Nat.not_lt_zero j)⟩,
      by decide, by simp [EnableClear, ReadEnabled, live, running, user, State.reset, State.resetWith]⟩,
    reaches_of_check rfl (by decide +kernel) (by decide +kernel),
    ⟨by decide +kernel, ⟨rfl, by decide +kernel, .inr (by decide +kernel)⟩, fun j hj => absurd hj (Nat.not_lt_zero j)⟩,
    by decide, by simp [EnableClear, WriteEnabled, entry8, live, running, user, State.reset, State.resetWith]⟩

/-- A translation that succeeds. -/
theorem witness_SuccessfulMemxAnswersLikeXlate :
    XlateAnswers .read 0x12345 running (.ok 0xAA345 ⟨true, true, true⟩) := xlateAnswers_of (by decide +kernel)

/-- Every reason of a data-stream failure, with the slot free. -/
theorem witness_DataFaultRecordsItsDiagnostics :
    running.excCond = none ∧ XlateAnswers .read 0x8000 running (.err (.miss false)) ∧
      XlateAnswers .write 0x6000 running (.err (.miss true)) ∧
      XlateAnswers .read 0x800000000000 running (.err .badVirtualAddress) ∧
      XlateAnswers .read 0x4000 running (.err (.accessViolation false true false)) ∧
      XlateAnswers .write 0x4000 running (.err (.accessViolation false false true)) ∧
      XlateAnswers .write 0x4000 { running with cm := 3 } (.err (.accessViolation true false true)) :=
  ⟨rfl, xlateAnswers_of (by decide +kernel), xlateAnswers_of (by decide +kernel), xlateAnswers_of (by decide +kernel),
    xlateAnswers_of (by decide +kernel), xlateAnswers_of (by decide +kernel), xlateAnswers_of (by decide +kernel)⟩

/-- Every reason of an instruction-stream failure, with the slot free. -/
theorem witness_FetchFaultRecordsNothingElse :
    running.excCond = none ∧ XlateAnswers .execute 0x8000 running (.err (.miss false)) ∧
      XlateAnswers .execute 0x40000000000 running (.err .badVirtualAddress) ∧
      XlateAnswers .execute 0x4000 { running with cm := 1 } (.err (.accessViolation true false false)) :=
  ⟨rfl, xlateAnswers_of (by decide +kernel), xlateAnswers_of (by decide +kernel), xlateAnswers_of (by decide +kernel)⟩

/-- The ASN changed with flushing on, changed with flushing off, and written with its own value. -/
theorem witness_WritingAnotherAsnFlushesBothCaches :
    (∃ t, exec (.wrctlAsn 6) running = .next t ∧ (t.asn ≠ running.asn ∧ running.cfg.asnWriteFlushes = true)) ∧
      (∃ t, exec (.wrctlAsn 0x105) running = .next t ∧ t.asn = running.asn) ∧
      { Config.default with asnWriteFlushes := false }.asnWriteFlushes = false :=
  ⟨next_of_after (by decide +kernel), next_of_after (by decide +kernel), rfl⟩

/-- In privileged mode `SDE` changing in either direction, and not changing. -/
theorem witness_IctlWriteSwapsOnlyWhenPrivilegedSdeChanges :
    State.reset.pal = true ∧ (1 : Word).getLsbD 0 ≠ State.reset.ictl.getLsbD 0 ∧
      (0x3E : Word).getLsbD 0 ≠ ({ State.reset with ictl := 1 }).ictl.getLsbD 0 ∧
      (0x3E : Word).getLsbD 0 = State.reset.ictl.getLsbD 0 ∧ user.pal = false := by decide +kernel

/-- The invariant, a register in the shadow set and one outside. -/
theorem witness_SwapExchangesExactlyTheEightPairs :
    running.Inv ∧ running.cfg.shadowSet.getD 0 0 = 4 ∧ running.cfg.shadowSet.getD 7 0 = 23 ∧ 31 ∉ running.cfg.shadowSet :=
  ⟨running_inv, rfl, rfl, by decide +kernel⟩

/-- Each clause: a command that answers a state in which the piece of state differs. -/
theorem witness_StateChangesOnlyThroughItsWriters :
    (∃ t, exec (.wrctlAsn 6) running = .next t ∧ (t.asn ≠ running.asn ∧ t.itb ≠ running.itb ∧ t.dtb ≠ running.dtb)) ∧
      (∃ t, exec (.wrctlCm 3) running = .next t ∧ t.cm ≠ running.cm) ∧
      (∃ t, exec (.wrctlIer 0) running = .next t ∧ t.ier ≠ running.ier) ∧
      (∃ t, exec (.wrctlSirr 0) running = .next t ∧ (t.sirr ≠ running.sirr ∧
        t.ipend &&& running.cfg.swintMask ≠ running.ipend &&& running.cfg.swintMask ∧ running.cfg.wf = true)) ∧
      (∃ t, exec (.irq 0) running = .next t ∧
        t.ipend &&& hwintMask running.cfg ≠ running.ipend &&& hwintMask running.cfg) ∧
      (∃ t, exec (.wrctlIctl 0) running = .next t ∧ t.ictl ≠ running.ictl) ∧
      (∃ t, exec (.wrctlDctl 0) running = .next t ∧ t.dctl ≠ running.dctl) ∧
      (∃ t, exec (.wrctlPalBase 0) running = .next t ∧ t.palBase ≠ running.palBase) ∧
      (∃ t, exec (.wrctlIvptb 1) running = .next t ∧ t.ivptb ≠ running.ivptb) ∧
      (∃ t, exec (.wrctlDvptb 1) running = .next t ∧ t.dvptb ≠ running.dvptb) ∧
      (∃ t, exec (.wrctlItbTag 1) running = .next t ∧ t.itbTag ≠ running.itbTag) ∧
      (∃ t, exec (.wrctlDtbTag 1) running = .next t ∧ t.dtbTag ≠ running.dtbTag) ∧
      (∃ t, exec (.addqv 0x7FFFFFFFFFFFFFFF 1) running = .next t ∧
        (t.excSum ≠ running.excSum ∧ t.excCond ≠ running.excCond ∧ t.excAux ≠ running.excAux)) ∧
      (∃ t, exec .dispatch { running with excCond := some (.generic .fen), x := running.x.set 4 7 } = .next t ∧
        (t.excAddr ≠ running.excAddr ∧ t.pc ≠ running.pc ∧ t.pal ≠ running.pal ∧ t.xlateCtx ≠ running.xlateCtx ∧
          t.x ≠ running.x.set 4 7 ∧ t.sh ≠ running.sh)) ∧
      (∃ t, exec (.memx .write 0x4000 (some 0)) running = .next t ∧
        (t.mmStat ≠ running.mmStat ∧ t.faultVa ≠ running.faultVa)) ∧
      (∃ t, exec .rs running = .next t ∧ t.intrFlag ≠ running.intrFlag) ∧
      (∃ t, exec (.tbis .i 0x4000) running = .next t ∧ t.itb ≠ running.itb) ∧
      ∃ t, exec (.wrctlDtbPte 0) running = .next t ∧ t.dtb ≠ running.dtb :=
  ⟨next_of_after (by decide +kernel), next_of_after (by decide +kernel), next_of_after (by decide +kernel),
    next_of_after (by decide +kernel), next_of_after (by decide +kernel), next_of_after (by decide +kernel),
    next_of_after (by decide +kernel), next_of_after (by decide +kernel), next_of_after (by decide +kernel),
    next_of_after (by decide +kernel), next_of_after (by decide +kernel), next_of_after (by decide +kernel),
    next_of_after (by decide +kernel), next_of_after (by decide +kernel), next_of_after (by decide +kernel),
    next_of_after (by decide +kernel), next_of_after (by decide +kernel), next_of_after (by decide +kernel)⟩

/-- The slot free and full, and the widest offset. -/
theorem witness_RaisePlacesTheCondition :
    running.excCond = none ∧ { running with excCond := some (.vectored 0) }.excCond ≠ none ∧
      (0xFFFF : Word).toNat < 2 ^ 16 := by decide +kernel

/-- Nothing raised; a condition raised in normal mode with shadow and call modes on, at both sides of the call class; one
raised in privileged mode. -/
theorem witness_DispatchTakesTheCondition :
    running.excCond = none ∧ { running with excCond := some (.vectored 0x2000) }.Inv ∧
      { running with excCond := some (.vectored 0x1FFF) }.Inv ∧ { State.reset with excCond := some (.generic .fen) }.Inv ∧
      isCallVec running.cfg 0x2000 = true ∧ isCallVec running.cfg 0x1FFF = false ∧ running.ictl.getLsbD 0 = true ∧
      running.ictl.getLsbD 1 = true ∧ running.pal = false :=
  ⟨rfl, inv_of_check (by decide +kernel), inv_of_check (by decide +kernel), inv_of_check (by decide +kernel),
    by decide +kernel, by decide +kernel, by decide +kernel, by decide +kernel, rfl⟩

/-- No interrupt summarised, and a privileged target with one. -/
theorem witness_PalretReturnsToItsTarget :
    (State.reset.pal = true ∧ State.reset.ipend &&& State.reset.ier = 0) ∧
      { running with pal := true, xlateCtx := .pal }.pal = true ∧ running.ipend &&& running.ier ≠ 0 ∧
      (0x9001 : Word).getLsbD 0 = true := by decide +kernel

/-- Each of the three clauses. -/
theorem witness_PalretRedirectsToThePendingInterrupt :
    ({ running with pal := true, xlateCtx := .pal }.pal = true ∧ running.ipend &&& running.ier ≠ 0 ∧
      (0x9000 : Word).getLsbD 0 = false) ∧ (0x9001 : Word).getLsbD 0 = true ∧ running.pal = false := by decide +kernel

/-- Entering, leaving, and staying in privileged mode. -/
theorem witness_PrivilegedModeIsEnteredAndLeftOnlyByItsCommands :
    (∃ t, exec .dispatch { running with excCond := some (.generic .fen) } = .next t ∧ (running.pal = false ∧ t.pal = true)) ∧
      (∃ t, exec (.palret 0x9000) State.reset = .next t ∧ (State.reset.pal = true ∧ t.pal = false)) ∧
      ∃ t, exec (.palret 0x9001) State.reset = .next t ∧ t.pal = true :=
  ⟨next_of_after (by decide +kernel), next_of_after (by decide +kernel), next_of_after (by decide +kernel)⟩

/-- A well-formed configuration and the first and last line. -/
theorem witness_IrqReplacesTheHardwareField :
    running.cfg.wf = true ∧ 0 < running.cfg.hwintCount ∧ 5 < running.cfg.hwintCount ∧ ¬6 < running.cfg.hwintCount ∧
      running.cfg.hwintShift = 33 := by decide +kernel

/-- The request line up and nothing raised. -/
theorem witness_TrapsEnterPrivilegedMode : running.irqLine = true ∧ running.excCond = none := by decide +kernel

/-- Both clauses at the first and the last pair: the shadow bank in (privileged, `SDE` on) and out. -/
theorem witness_ShadowBankProtectsNormalRegisters :
    running.Inv ∧ (∃ t, exec (.wrgpr 4 7) { running with pal := true, xlateCtx := .pal } = .next t ∧
        { running with pal := true, xlateCtx := .pal }.shadowIn = true) ∧
      { running with pal := true, xlateCtx := .pal }.Inv ∧ running.shadowIn = false ∧
      (∃ t, exec (.wrctlIctl 0) running = .next t ∧ t.shadowIn = false) ∧
      (∃ t, exec .dispatch { running with excCond := some (.generic .fen) } = .next t ∧ running.ictl.getLsbD 0 = true) ∧
      7 < 8 :=
  ⟨running_inv, next_of_after (P := fun _ => { running with pal := true, xlateCtx := .pal }.shadowIn = true)
      (by decide +kernel),
    inv_of_check (by decide +kernel), by decide +kernel, next_of_after (by decide +kernel),
    next_of_after (P := fun _ => running.ictl.getLsbD 0 = true) (by decide +kernel), by decide⟩

/-- The exponent of a Format-F image, as the statements write it. -/
def expF (a : Word) : Nat := a.toNat / 2 ^ 62 % 2 * 2 ^ 7 + a.toNat / 2 ^ 52 % 2 ^ 7

/-- The exponent of a single, as the statements write it. -/
def expS (b : Word32) : Nat := b.toNat / 2 ^ 23 % 2 ^ 8

/-- The exponent of a Format-G image or a double, as the statements write it. -/
def expG (a : Word) : Nat := a.toNat / 2 ^ 52 % 2 ^ 11

/-- Format F: reserved operands by sign and by fraction, true zero, exponents 1, 2 and 3. -/
theorem witness_CvtfsConvertsFormatF :
    running.excCond = none ∧ (expF 0x8000000000000000 = 0 ∧ (0x8000000000000000 : Word).toNat / 2 ^ 63 ≠ 0) ∧
      (expF 0x0000000020000000 = 0 ∧ (0x0000000020000000 : Word).toNat / 2 ^ 29 % 2 ^ 23 ≠ 0) ∧
      (expF 0 = 0 ∧ (0 : Word).toNat / 2 ^ 63 = 0 ∧ (0 : Word).toNat / 2 ^ 29 % 2 ^ 23 = 0) ∧
      expF 0x0010000000000000 = 1 ∧ expF 0x0020000000000000 = 2 ∧ expF 0x0030000000000000 = 3 := by decide +kernel

/-- Single: exponents 0, 1, 253, 254 and 255. -/
theorem witness_CvtsfConvertsSingle :
    expS 0x007FFFFF = 0 ∧ expS 0x00800000 = 1 ∧ expS 0x7EFFFFFF = 253 ∧ expS 0x7F000000 = 254 ∧ expS 0x7F800000 = 255 := by
  decide +kernel

/-- Images with the fill CVTSF writes, at the least exponent and above the middle; singles at both ends. -/
theorem witness_FormatFRoundTrips :
    ((0x3830000000000000 : Word).toNat % 2 ^ 29 = 0 ∧ (formatFExp 0x3830000000000000).toNat = 3 ∧
      (0x3830000000000000 : Word).extractLsb' 59 3 =
        (if (0x3830000000000000 : Word).getLsbD 62 = true then 0#3 else 7#3)) ∧
      ((0x4010000000000000 : Word).toNat % 2 ^ 29 = 0 ∧ (formatFExp 0x4010000000000000).toNat = 0x81 ∧
        (0x4010000000000000 : Word).extractLsb' 59 3 =
          (if (0x4010000000000000 : Word).getLsbD 62 = true then 0#3 else 7#3)) ∧
      expS 0x00800000 = 1 ∧ expS 0x7EFFFFFF = 253 := by decide +kernel

/-- Format G and double: exponents 0 (reserved and true zero), 1, 2, 3, 2045, 2046 and 2047. -/
theorem witness_CvtgtAndCvttgConvert :
    running.excCond = none ∧ (expG 0x000FFFFFFFFFFFFF = 0 ∧ (0x000FFFFFFFFFFFFF : Word).toNat % 2 ^ 52 ≠ 0) ∧
      (expG 0 = 0 ∧ (0 : Word).toNat / 2 ^ 63 = 0 ∧ (0 : Word).toNat % 2 ^ 52 = 0) ∧ expG 0x0010000000000000 = 1 ∧
      expG 0x0020000000000000 = 2 ∧ expG 0x0030000000000000 = 3 ∧ expG 0x7FDFFFFFFFFFFFFF = 2045 ∧
      expG 0x7FE0000000000000 = 2046 ∧ expG 0x7FF0000000000000 = 2047 := by decide +kernel

/-- Both clauses at both ends of their ranges. -/
theorem witness_FormatGRoundTrips :
    expG 0x0030000000000000 = 3 ∧ expG 0x7FF0000000000000 = 2047 ∧ expG 0x0010000000000000 = 1 ∧
      expG 0x7FDFFFFFFFFFFFFF = 2045 := by decide +kernel

/-- Quadword sum and difference: overflow and none, at the ends, with the slot free. -/
theorem witness_QuadAddSubOverflowByTheirBitTests :
    running.excCond = none ∧
      ((0x7FFFFFFFFFFFFFFF : Word).getLsbD 63 = (1 : Word).getLsbD 63 ∧
        (0x7FFFFFFFFFFFFFFF + 1 : Word).getLsbD 63 ≠ (0x7FFFFFFFFFFFFFFF : Word).getLsbD 63) ∧
      ¬((0x7FFFFFFFFFFFFFFF : Word).getLsbD 63 = (0 : Word).getLsbD 63 ∧
        (0x7FFFFFFFFFFFFFFF + 0 : Word).getLsbD 63 ≠ (0x7FFFFFFFFFFFFFFF : Word).getLsbD 63) ∧
      ((0x8000000000000000 : Word).getLsbD 63 ≠ (1 : Word).getLsbD 63 ∧
        (0x8000000000000000 - 1 : Word).getLsbD 63 ≠ (0x8000000000000000 : Word).getLsbD 63) ∧
      ¬((0x8000000000000000 : Word).getLsbD 63 ≠ (0 : Word).getLsbD 63 ∧
        (0x8000000000000000 - 0 : Word).getLsbD 63 ≠ (0x8000000000000000 : Word).getLsbD 63) := by decide +kernel

/-- Quadword product: the greatest square that fits and the next. -/
theorem witness_QuadMultiplyOverflowByTheWideProduct :
    running.excCond = none ∧
      ((0xB504F333#64).signExtend 128 * (0xB504F333#64).signExtend 128).extractLsb' 63 65 = 0#65 ∧
      (((0xB504F334#64).signExtend 128 * (0xB504F334#64).signExtend 128).extractLsb' 63 65 ≠ 0#65 ∧
        ((0xB504F334#64).signExtend 128 * (0xB504F334#64).signExtend 128).extractLsb' 63 65 ≠ BitVec.allOnes 65) := by
  decide +kernel

/-- Longword sum and difference: overflow and none, with the slot free. -/
theorem witness_LongAddSubOverflowByTheirBitTests :
    running.excCond = none ∧
      ((0x7FFFFFFF : Word).getLsbD 31 = (1 : Word).getLsbD 31 ∧
        ((0x7FFFFFFF : Word).setWidth 32 + (1 : Word).setWidth 32).getLsbD 31 ≠ (0x7FFFFFFF : Word).getLsbD 31) ∧
      ((0x7FFFFFFE : Word).setWidth 32 + (1 : Word).setWidth 32).getLsbD 31 = (0x7FFFFFFE : Word).getLsbD 31 ∧
      ((0x80000000 : Word).getLsbD 31 ≠ (1 : Word).getLsbD 31 ∧
        ((0x80000000 : Word).setWidth 32 - (1 : Word).setWidth 32).getLsbD 31 ≠ (0x80000000 : Word).getLsbD 31) ∧
      (0x80000000 : Word).getLsbD 31 = (0x80000000 : Word).getLsbD 31 := by decide +kernel

/-- Longword product: the greatest square that fits and the next, with the slot free. -/
theorem witness_LongMultiplyOverflowByTheWideProduct :
    running.excCond = none ∧ ((0xB504#64 * 0xB504#64).setWidth 32).signExtend 64 = 0xB504#64 * 0xB504#64 ∧
      ((0xB505#64 * 0xB505#64).setWidth 32).signExtend 64 ≠ 0xB505#64 * 0xB505#64 := by decide +kernel

/-- The invariant, with register 31 and another. -/
theorem witness_GeneralRegisterPortReadsWhatWasWritten : running.Inv ∧ (31 : BitVec 5) = 31 ∧ (30 : BitVec 5) ≠ 31 :=
  ⟨running_inv, rfl, by decide⟩

end Sys2Proof.Tests
end

section
/-! Rule R86 of 30_encoding.md: which command records the decoder rejects, format by format on the numbers of the word's
fields; that no command which decodes is refused by that name; and the obligation from the two. -/

namespace Sys2Proof

/-! ## A rejection, whatever its name -/

/-- The decoder's answer is a rejection under one of the names of R86. -/
def Decoded.IsIllegal (d : Decoded) : Prop := ∃ why, d = .illegal why

@[simp] theorem Decoded.isIllegal_illegal (why : IllegalCommand) : (Decoded.illegal why).IsIllegal := ⟨why, rfl⟩

@[simp] theorem Decoded.not_isIllegal_instr (i : Instr) : ¬(Decoded.instr i).IsIllegal := nofun

/-- A guarded answer whose other branch rejects. -/
@[simp] theorem Decoded.isIllegal_ite_illegal {p : Prop} [Decidable p] (d : Decoded) (why : IllegalCommand) :
    (if p then d else .illegal why).IsIllegal ↔ ¬p ∨ d.IsIllegal := by
  by_cases hp : p <;> simp [hp]

/-! ## The fields of a word as numbers (R81) -/

theorem toNat_opcField (w : Word32) : (opcField w).toNat = w.toNat / 2 ^ 24 := by
  have := w.isLt
  simp only [opcField, BitVec.extractLsb'_toNat, Nat.shiftRight_eq_div_pow]
  omega

theorem toNat_idxField (w : Word32) : (idxField w).toNat = w.toNat / 2 ^ 16 % 256 := by
  simp [idxField, Nat.shiftRight_eq_div_pow]

theorem toNat_modField (w : Word32) : (modField w).toNat = w.toNat / 2 ^ 8 % 256 := by
  simp [modField, Nat.shiftRight_eq_div_pow]

theorem byteField_eq_zero_iff (v : ByteField) : v = 0#8 ↔ v.toNat = 0 := BitVec.toNat_eq

theorem zeroField_eq_zero_iff (w : Word32) : zeroField w = 0#8 ↔ w.toNat % 256 = 0 := by
  simp [byteField_eq_zero_iff, zeroField]

/-! ## What each format rejects (R82, R86) -/

theorem formatN_isIllegal (idx md : ByteField) (i : Instr) :
    (formatN idx md i).IsIllegal ↔ idx.toNat ≠ 0 ∨ md.toNat ≠ 0 := by
  simp only [formatN, Decoded.isIllegal_ite_illegal, Decoded.not_isIllegal_instr, or_false, byteField_eq_zero_iff,
    not_and_or, ne_eq]

theorem formatS_isIllegal (idx md : ByteField) (f : Stream → Instr) :
    (formatS idx md f).IsIllegal ↔ idx.toNat ≠ 0 ∨ md.toNat / 2 ≠ 0 := by
  simp only [formatS, Decoded.isIllegal_ite_illegal, byteField_eq_zero_iff]
  split
  next hmd => simp [hmd]
  next hmd => simp [hmd]
  next h0 h1 =>
    have hmd : md.toNat / 2 ≠ 0 := by
      simp only [imp_false] at h0 h1
      omega
    simp [hmd]

theorem formatK_isIllegal (idx md : ByteField) (f : Kind → Instr) :
    (formatK idx md f).IsIllegal ↔ idx.toNat ≠ 0 ∨ md.toNat / 4 ≠ 0 ∨ md.toNat % 4 = 3 := by
  simp only [formatK, Decoded.isIllegal_ite_illegal, byteField_eq_zero_iff]
  split
  next hmd => simp [hmd]
  next hmd => simp [hmd]
  next hmd => simp [hmd]
  next hmd => simp [hmd]
  next h0 h1 h2 h3 =>
    have hmd : md.toNat / 4 ≠ 0 := by
      simp only [imp_false] at h0 h1 h2 h3
      omega
    simp [hmd]

theorem formatR_isIllegal (md : ByteField) (i : Instr) : (formatR md i).IsIllegal ↔ md.toNat ≠ 0 := by
  simp [formatR, byteField_eq_zero_iff]

theorem formatX_isIllegal (idx md : ByteField) (f : BitVec 5 → Instr) :
    (formatX idx md f).IsIllegal ↔ idx.toNat / 32 ≠ 0 ∨ md.toNat ≠ 0 := by
  have hidx : idx.extractLsb' 5 3 = 0#3 ↔ idx.toNat / 32 = 0 := by
    have := idx.isLt
    simp only [← BitVec.toNat_inj, BitVec.extractLsb'_toNat, Nat.shiftRight_eq_div_pow, BitVec.toNat_ofNat]
    omega
  simp only [formatX, Decoded.isIllegal_ite_illegal, Decoded.not_isIllegal_instr, or_false, byteField_eq_zero_iff, hidx]
  omega

theorem formatG_isIllegal (idx md : ByteField) (a aux : Word) :
    (formatG idx md a aux).IsIllegal ↔
      md.toNat / 2 ≠ 0 ∨ (md.toNat % 2 = 1 ∧ idx.toNat / 4 ≠ 0) ∨
        (md.toNat % 2 = 0 ∧ (idx.toNat ≠ 0 ∨ a.toNat / 2 ^ 16 ≠ 0)) := by
  have ha : a.extractLsb' 16 48 = 0#48 ↔ a.toNat / 2 ^ 16 = 0 := by
    have := a.isLt
    simp only [← BitVec.toNat_inj, BitVec.extractLsb'_toNat, Nat.shiftRight_eq_div_pow, BitVec.toNat_ofNat]
    omega
  unfold formatG
  split
  next hmd =>
    split
    next hidx => simp [hmd, hidx]
    next hidx => simp [hmd, hidx]
    next hidx => simp [hmd, hidx]
    next hidx => simp [hmd, hidx]
    next h0 h1 h2 h3 =>
      have hidx : idx.toNat / 4 ≠ 0 := by
        simp only [imp_false] at h0 h1 h2 h3
        omega
      simp [hmd, hidx]
  next hmd => simp [hmd, byteField_eq_zero_iff, ha]
  next h1 h0 =>
    have hmd : md.toNat / 2 ≠ 0 := by
      simp only [imp_false] at h0 h1
      omega
    simp [hmd]

/-! ## The format of each opcode (R84) -/

section
variable {opc : Nat} {idx md : ByteField} {c : Command}

theorem decodeFields_isIllegal_of_formatS (h : 0x01 ≤ opc ∧ opc ≤ 0x05) :
    (decodeFields opc idx md c).IsIllegal ↔ idx.toNat ≠ 0 ∨ md.toNat / 2 ≠ 0 := by
  obtain ⟨h1, h2⟩ := h
  interval_cases opc <;> simp only [decodeFields, formatS_isIllegal]

theorem decodeFields_isIllegal_of_formatK (h : opc = 0x08 ∨ opc = 0x09) :
    (decodeFields opc idx md c).IsIllegal ↔ idx.toNat ≠ 0 ∨ md.toNat / 4 ≠ 0 ∨ md.toNat % 4 = 3 := by
  obtain rfl | rfl := h <;> simp only [decodeFields, formatK_isIllegal]

theorem decodeFields_isIllegal_of_formatR (h : opc = 0x10 ∨ opc = 0x11) :
    (decodeFields opc idx md c).IsIllegal ↔ md.toNat ≠ 0 := by
  obtain rfl | rfl := h <;> exact formatR_isIllegal md _

theorem decodeFields_isIllegal_of_formatG (h : opc = 0x18) :
    (decodeFields opc idx md c).IsIllegal ↔
      md.toNat / 2 ≠ 0 ∨ (md.toNat % 2 = 1 ∧ idx.toNat / 4 ≠ 0) ∨
        (md.toNat % 2 = 0 ∧ (idx.toNat ≠ 0 ∨ c.a.toNat / 2 ^ 16 ≠ 0)) := by
  obtain rfl := h
  exact formatG_isIllegal idx md c.a c.b

theorem decodeFields_isIllegal_of_formatN
    (h : (0x19 ≤ opc ∧ opc ≤ 0x1D) ∨ (0x20 ≤ opc ∧ opc ≤ 0x2D) ∨ opc = 0x32 ∨ opc = 0x33) :
    (decodeFields opc idx md c).IsIllegal ↔ idx.toNat ≠ 0 ∨ md.toNat ≠ 0 := by
  obtain ⟨h1, h2⟩ | ⟨h1, h2⟩ | rfl | rfl := h
  · interval_cases opc <;> exact formatN_isIllegal idx md _
  · interval_cases opc <;> exact formatN_isIllegal idx md _
  · exact formatN_isIllegal idx md _
  · exact formatN_isIllegal idx md _

theorem decodeFields_isIllegal_of_formatX (h : opc = 0x30 ∨ opc = 0x31) :
    (decodeFields opc idx md c).IsIllegal ↔ idx.toNat / 32 ≠ 0 ∨ md.toNat ≠ 0 := by
  obtain rfl | rfl := h <;> simp only [decodeFields, formatX_isIllegal]

/-- An opcode of no format is reserved. -/
theorem decodeFields_isIllegal_of_reserved
    (h : ¬(0x01 ≤ opc ∧ opc ≤ 0x05) ∧ ¬(opc = 0x08 ∨ opc = 0x09) ∧ ¬(opc = 0x10 ∨ opc = 0x11) ∧ ¬opc = 0x18 ∧
      ¬((0x19 ≤ opc ∧ opc ≤ 0x1D) ∨ (0x20 ≤ opc ∧ opc ≤ 0x2D) ∨ opc = 0x32 ∨ opc = 0x33) ∧
      ¬(opc = 0x30 ∨ opc = 0x31)) :
    (decodeFields opc idx md c).IsIllegal := by
  unfold decodeFields
  split
  case h_34 => exact Decoded.isIllegal_illegal _
  all_goals exact absurd h (by decide)

end

end Sys2Proof

namespace Sys2Proof.Machine

/-! ## A command that decodes is never refused as illegal -/

section
variable {why : IllegalCommand} {s : State}

theorem finish_ne_illegalCommand {r : Result} {ev : List Event} : finish r ev s ≠ .refused (.illegalCommand why) := nofun

theorem raise_ne_illegalCommand {cond : Condition} {aux : Word} : raise cond aux s ≠ .refused (.illegalCommand why) :=
  fun h => nomatch (raise_eq_refused.mp h).2

theorem ite_ne_illegalCommand {p : Prop} [Decidable p] {o o' : Step} (h : o ≠ .refused (.illegalCommand why))
    (h' : o' ≠ .refused (.illegalCommand why)) : (if p then o else o') ≠ .refused (.illegalCommand why) := by
  split <;> assumption

theorem dispatchCondition_ne_illegalCommand : dispatchCondition s ≠ .refused (.illegalCommand why) := by
  unfold dispatchCondition
  split
  · nofun
  · exact finish_ne_illegalCommand

theorem returnFromPal_ne_illegalCommand {target : Word} : returnFromPal target s ≠ .refused (.illegalCommand why) :=
  ite_ne_illegalCommand nofun (ite_ne_illegalCommand finish_ne_illegalCommand finish_ne_illegalCommand)

theorem dataFault_ne_illegalCommand {k : Kind} {r : FaultReason} {va : Word} {insn : Option Word32} :
    dataFault k r va insn s ≠ .refused (.illegalCommand why) := by
  cases insn with
  | none => nofun
  | some w => exact raise_ne_illegalCommand

theorem execMemx_ne_illegalCommand {k : Kind} {va : Word} {insn : Option Word32} :
    execMemx k va insn s ≠ .refused (.illegalCommand why) := by
  unfold execMemx
  split
  · exact finish_ne_illegalCommand
  · cases k with
    | execute => exact raise_ne_illegalCommand
    | read => exact dataFault_ne_illegalCommand
    | write => exact dataFault_ne_illegalCommand

/-- `IllegalCommand` is the decoder's refusal only: the commands named can be refused, each by a name of its own, and every
other one finishes. -/
theorem exec_ne_illegalCommand {i : Instr} : exec i s ≠ .refused (.illegalCommand why) := by
  cases i with
  | memx => exact execMemx_ne_illegalCommand
  | raiseGOpcdec | raiseGArith | raiseGFen | raiseGInterrupt | raiseV => exact raise_ne_illegalCommand
  | dispatch => exact dispatchCondition_ne_illegalCommand
  | palret => exact returnFromPal_ne_illegalCommand
  | cvtfs | cvtgt => exact ite_ne_illegalCommand raise_ne_illegalCommand finish_ne_illegalCommand
  | addlv | sublv | mullv | addqv | subqv | mulqv =>
    exact ite_ne_illegalCommand finish_ne_illegalCommand raise_ne_illegalCommand
  | _ => exact finish_ne_illegalCommand

end

/-- A waiting command that decodes is executed on the state in which it has been taken. -/
theorem step_of_decode_instr {s : State} {c : Command} {rest : List Input} {i : Instr}
    (hs : s.inputs = .command c :: rest) (hd : decode c = .instr i) : step s = exec i (s.setInputs rest) := by
  simp only [step, takeInput, hs, hd]

/-- A waiting command the decoder rejects is refused under the decoder's name. -/
theorem step_of_decode_illegal {s : State} {c : Command} {rest : List Input} {why : IllegalCommand}
    (hs : s.inputs = .command c :: rest) (hd : decode c = .illegal why) : step s = .refused (.illegalCommand why) := by
  simp only [step, takeInput, hs, hd]

/-- A step refuses the waiting command by R86's name exactly when the decoder rejects it. -/
theorem step_refuses_illegalCommand_iff {s : State} {c : Command} {rest : List Input}
    (hs : s.inputs = .command c :: rest) :
    (∃ why, step s = .refused (.illegalCommand why)) ↔ (decode c).IsIllegal := by
  cases hd : decode c with
  | instr i => simp [step_of_decode_instr hs hd, exec_ne_illegalCommand]
  | illegal why => simp [step_of_decode_illegal hs hd]

end Sys2Proof.Machine

namespace Sys2Proof

/-- Settles O2, by the format of the opcode: the formats share no opcode, so of the clauses of R86 only the one of the word's own
format can hold, and that is what the format rejects. -/
theorem illegalCommandsAreExactlyRule86 : Obligations.IllegalCommandsAreExactlyRule86 := by
  unfold Obligations.IllegalCommandsAreExactlyRule86
  intro c opc idx md zeroF formatS formatK formatR formatG formatN formatX illegal
  have hopc : (opcField c.w).toNat = opc := toNat_opcField c.w
  have hidx : (idxField c.w).toNat = idx := toNat_idxField c.w
  have hmd : (modField c.w).toNat = md := toNat_modField c.w
  have hzero : zeroField c.w = 0#8 ↔ zeroF = 0 := zeroField_eq_zero_iff c.w
  have hdecode : (decode c).IsIllegal ↔ illegal := by
    rw [decode, Decoded.isIllegal_ite_illegal, hzero, hopc]
    clear_value opc idx md zeroF
    by_cases hS : formatS
    · rw [decodeFields_isIllegal_of_formatS hS, hidx, hmd]
      have hother : ¬formatK ∧ ¬formatR ∧ ¬formatG ∧ ¬formatN ∧ ¬formatX := by omega
      simp [illegal, hS, hother]
    by_cases hK : formatK
    · rw [decodeFields_isIllegal_of_formatK hK, hidx, hmd]
      have hother : ¬formatR ∧ ¬formatG ∧ ¬formatN ∧ ¬formatX := by omega
      simp [illegal, hS, hK, hother]
    by_cases hR : formatR
    · rw [decodeFields_isIllegal_of_formatR hR, hmd]
      have hother : ¬formatG ∧ ¬formatN ∧ ¬formatX := by omega
      simp [illegal, hS, hK, hR, hother]
    by_cases hG : formatG
    · rw [decodeFields_isIllegal_of_formatG hG, hidx, hmd]
      have hother : ¬formatN ∧ ¬formatX := by omega
      simp [illegal, hS, hK, hR, hG, hother]
    by_cases hN : formatN
    · rw [decodeFields_isIllegal_of_formatN hN, hidx, hmd]
      have hother : ¬formatX := by omega
      simp [illegal, hS, hK, hR, hG, hN, hother]
    by_cases hX : formatX
    · rw [decodeFields_isIllegal_of_formatX hX, hidx, hmd]
      simp [illegal, hS, hK, hR, hG, hN, hX]
    simp [illegal, hS, hK, hR, hG, hN, hX, decodeFields_isIllegal_of_reserved ⟨hS, hK, hR, hG, hN, hX⟩]
  exact ⟨hdecode, fun s rest hs => (Machine.step_refuses_illegalCommand_iff hs).trans hdecode⟩

end Sys2Proof
end

section
/-! The command words of format S, and what TBLKUP, TBINS, TBIA and TBIAP do slot by slot
(40_tlb.md R100 to R106), with the obligations on these four commands. -/

namespace Sys2Proof

open Sys2Proof.Claims

/-! ## The words of a command of format S (R82) -/

/-- An opcode of format S has one word per stream, whatever the operand ports hold. -/
theorem opensAs_streamWords (opc : ByteField) (f : Stream → Word → Word → Instr)
    (hf : ∀ idx md c, decodeFields opc.toNat idx md c = formatS idx md fun st => f st c.a c.b) :
    OpensAs (word opc 0 0) (f .i) ∧ OpensAs (word opc 0 1) (f .d) :=
  ⟨fun a b insn valid => (decode_word opc 0 0 a b insn valid).trans (hf _ _ _),
    fun a b insn valid => (decode_word opc 0 1 a b insn valid).trans (hf _ _ _)⟩

end Sys2Proof

namespace Sys2Proof.Machine

open Sys2Proof.Claims

/-! ## The invariant of either cache (R41) -/

/-- The invariant of the state holds the invariant of either cache. -/
theorem State.Inv.tlb {s : State} (h : s.Inv) : ∀ st, TlbInv s.cfg (s.tlb st)
  | .i => h.itb
  | .d => h.dtb

/-! ## A slot answers (R100) -/

theorem Slot.hits_iff_answers {c : Config} {e : Slot} {va asn : Word} : e.hits c va asn = true ↔ Answers c e va asn := by
  simp only [Slot.hits, Slot.covers, Slot.asnOk, Slot.isGlobal, Answers, Bool.and_eq_true, Bool.or_eq_true, beq_iff_eq,
    and_assoc]

theorem Slot.hits_eq_false_iff {c : Config} {e : Slot} {va asn : Word} :
    e.hits c va asn = false ↔ ¬Answers c e va asn := by
  rw [← Slot.hits_iff_answers, Bool.not_eq_true]

theorem Tlb.lookup_eq_none_iff_answers {c : Config} {t : Tlb} {va asn : Word} :
    t.lookup c va asn = none ↔ ∀ e ∈ t.slots, ¬Answers c e va asn := by
  simp only [Tlb.lookup_eq_none, Slot.hits_eq_false_iff]

theorem Tlb.lookup_eq_some_iff_firstAnswer {c : Config} {t : Tlb} {va asn : Word} {i : Nat} {e : Slot} :
    t.lookup c va asn = some (i, e) ↔ FirstAnswer c t va asn i e := by
  simp only [Tlb.lookup_eq_some, Slot.hits_iff_answers, Slot.hits_eq_false_iff, FirstAnswer]

/-! ## The slots after an insert (R104) -/

theorem Tlb.getElem?_insert_next {t : Tlb} (h : t.next < t.slots.length) (e : Slot) :
    (t.insert e).slots[t.next]? = some e :=
  List.getElem?_set_self h

theorem Tlb.getElem?_insert_of_ne {t : Tlb} {i : Nat} (h : i ≠ t.next) (e : Slot) :
    (t.insert e).slots[i]? = t.slots[i]? :=
  List.getElem?_set_ne h.symm

/-- The diagnostic of TBINS by the number bits 6:5 of the operand denote (R103, R104). -/
theorem insertEvents_eq (st : Stream) (pte : Word) :
    insertEvents st pte = if pte.toNat / 2 ^ 5 % 4 = 3 then [.diag (.reservedGh st pte)] else [] := by
  have hgh : pteGhReserved pte = true ↔ pte.toNat / 2 ^ 5 % 4 = 3 := by
    simp [pteGhReserved, ← BitVec.toNat_inj, Nat.shiftRight_eq_div_pow]
  simp only [insertEvents, hgh]

/-! ## The slots after a flush (R105, R106) -/

theorem Tlb.getElem?_flushAll (t : Tlb) (i : Nat) : t.flushAll.slots[i]? = t.slots[i]?.map Slot.kill :=
  List.getElem?_map

theorem Tlb.getElem?_flushNonGlobal (t : Tlb) (i : Nat) :
    t.flushNonGlobal.slots[i]? = t.slots[i]?.map fun e => if e.isGlobal then e else e.kill :=
  List.getElem?_map

/-- After a flush of all slots no address hits. -/
theorem Tlb.lookup_flushAll (c : Config) (t : Tlb) (va asn : Word) : t.flushAll.lookup c va asn = none := by
  rw [Tlb.lookup_eq_none]
  intro a ha
  obtain ⟨e, -, rfl⟩ := List.mem_map.mp ha
  exact Slot.kill_hits c e va asn

/-- After a flush of the entries that are not global only a global entry hits: a killed slot answers nothing. -/
theorem Tlb.isGlobal_of_lookup_flushNonGlobal {c : Config} {t : Tlb} {va asn : Word} {i : Nat} {e : Slot}
    (h : t.flushNonGlobal.lookup c va asn = some (i, e)) : e.isGlobal = true := by
  obtain ⟨hslot, hhits, -⟩ := Tlb.lookup_eq_some.mp h
  obtain ⟨a, -, rfl⟩ := List.mem_map.mp (List.mem_of_getElem? hslot)
  by_cases hg : a.isGlobal = true
  · rwa [if_pos hg]
  · rw [if_neg hg, Slot.kill_hits] at hhits
    exact absurd hhits Bool.false_ne_true

end Sys2Proof.Machine

namespace Sys2Proof

open Sys2Proof.Machine Sys2Proof.Claims

/-! ## The commands -/

/-- Settles O12, by what the scan answers, in both directions, on the slot's fields. -/
theorem tblkupAnswersTheFirstMatch : Obligations.TblkupAnswersTheFirstMatch := by
  unfold Obligations.TblkupAnswersTheFirstMatch
  obtain ⟨hi, hd⟩ := opensAs_streamWords 0x01 .tblkup fun _ _ _ => rfl
  exact ⟨hi, hd, fun st va asn s => ⟨(s.tlb st).lookup s.cfg va (asnOf s.cfg asn), rfl, Tlb.lookup_eq_none_iff_answers,
    fun _ _ => Tlb.lookup_eq_some_iff_firstAnswer⟩⟩

/-- Settles O14: the command replaces one cache by its insert of `newSlot`, which is the statement's entry field for field, and
the invariant puts `next` inside the cache. -/
theorem tbinsWritesTheNextSlot : Obligations.TbinsWritesTheNextSlot := by
  unfold Obligations.TbinsWritesTheNextSlot
  obtain ⟨hi, hd⟩ := opensAs_streamWords 0x02 .tbins fun _ _ _ => rfl
  refine ⟨hi, hd, fun st va pte s hinv =>
    ⟨(s.tlbInsert st va pte).withReply ⟨.done (.value 0), insertEvents st pte⟩, rfl, ?_⟩⟩
  have hnext : (s.tlb st).next < (s.tlb st).slots.length := (hinv.tlb st).size ▸ (hinv.tlb st).next
  rw [State.tlb_withReply, State.tlbInsert, State.tlb_setTlb_self, State.withReply_reply, insertEvents_eq]
  exact ⟨Tlb.getElem?_insert_next hnext _, fun _ hne => Tlb.getElem?_insert_of_ne hne _, Tlb.next_insert _ _,
    fun _ hne => State.tlb_setTlb_other hne _ s, rfl, rfl⟩

/-- Settles O16: the command replaces one cache by its flush. -/
theorem tbiaEmptiesItsStream : Obligations.TbiaEmptiesItsStream := by
  unfold Obligations.TbiaEmptiesItsStream
  obtain ⟨hi, hd⟩ := opensAs_streamWords 0x03 (fun st _ _ => .tbia st) fun _ _ _ => rfl
  refine ⟨hi, hd, fun st s => ⟨(s.tlbFlushAll st).withReply ⟨.done (.value 0), []⟩, rfl, ?_⟩⟩
  rw [State.tlb_withReply, State.tlbFlushAll, State.tlb_setTlb_self]
  exact ⟨Tlb.getElem?_flushAll _, Tlb.next_flushAll _, fun _ hne => State.tlb_setTlb_other hne _ s, rfl, rfl,
    Tlb.lookup_flushAll _ _⟩

/-- Settles O17: the command replaces one cache by its flush, and what hits there afterwards is global. -/
theorem tbiapKeepsExactlyGlobalEntries : Obligations.TbiapKeepsExactlyGlobalEntries := by
  unfold Obligations.TbiapKeepsExactlyGlobalEntries
  obtain ⟨hi, hd⟩ := opensAs_streamWords 0x04 (fun st _ _ => .tbiap st) fun _ _ _ => rfl
  refine ⟨hi, hd, fun st s => ⟨(s.tlbFlushNonGlobal st).withReply ⟨.done (.value 0), []⟩, rfl, ?_⟩⟩
  rw [State.tlb_withReply, State.tlbFlushNonGlobal, State.tlb_setTlb_self]
  exact ⟨Tlb.getElem?_flushNonGlobal _, Tlb.next_flushNonGlobal _, fun _ hne => State.tlb_setTlb_other hne _ s, rfl, rfl,
    fun _ _ _ _ => Tlb.isGlobal_of_lookup_flushNonGlobal⟩

end Sys2Proof
end

section
/-! XLATE as the function it answers with, the canonical test and the windows on the way to the lookup, and the diagnostics of
a failed data-stream MEMX (41_translate.md R120 to R133), with the obligations on these. -/

namespace Sys2Proof.Machine

open Sys2Proof.Claims

/-! ## XLATE as a function (R120, R121) -/

/-- XLATE answers the value of `xlateOf` and no other. -/
theorem xlateAnswers_iff {k : Kind} {va : Word} {s : State} {r : Translation} :
    XlateAnswers k va s r ↔ xlateOf k va s = r := by
  constructor
  · intro h
    have hreply := congrArg State.reply (finish_eq_next.mp (show finish _ _ s = _ from h))
    simpa [eq_comm] using hreply
  · rintro rfl
    rfl

/-- An Execute address in the privileged context is physical (R121). -/
theorem xlateOf_of_physical {va : Word} {s : State} (h : s.xlateCtx = .pal) :
    xlateOf .execute va s = .ok (va &&& lowMask s.cfg.paBits) ⟨false, false, true⟩ := if_pos ⟨rfl, h⟩

/-- Every other address goes through the steps of R122 to R127. -/
theorem xlateOf_of_not_physical {k : Kind} {va : Word} {s : State} (h : ¬(k = .execute ∧ s.xlateCtx = .pal)) :
    xlateOf k va s = translateVirtual k va s := if_neg h

theorem xlateOf_of_ne_execute {k : Kind} (hk : k ≠ .execute) (va : Word) (s : State) :
    xlateOf k va s = translateVirtual k va s := xlateOf_of_not_physical fun h => hk h.1

/-- The steps of R122 to R127 do not read the context (R121). -/
theorem translateVirtual_setContext (k : Kind) (va : Word) (s : State) (ctx : XlateCtx) (p : Bool) :
    translateVirtual k va { s with xlateCtx := ctx, pal := p } = translateVirtual k va s := rfl

/-! ## The way to the lookup (R122 to R124) -/

/-- The canonical test compares the bits from the sign bit of the width on with bit 63 (R60). -/
theorem canonical_iff_highBitsEqual {w : Nat} (h0 : 0 < w) (h64 : w ≤ 64) {va : Word} :
    canonical w va = true ↔ HighBitsEqual w va := by
  rw [canonical, beq_iff_eq]
  constructor
  · intro hsext
    have hsign : ∀ i, w - 1 ≤ i → i < 64 → va.getLsbD i = va.getLsbD (w - 1) := by
      intro i hlo hi
      by_cases hw : i < w
      · rw [show i = w - 1 by omega]
      · rw [← congrArg (·.getLsbD i) hsext]
        simp only [getLsbD_sext h0 va hi, if_neg hw]
    exact fun i hlo hi => (hsign i hlo hi).trans (hsign 63 (by omega) (by decide)).symm
  · intro hhigh
    refine BitVec.eq_of_getLsbD_eq fun i hi => ?_
    rw [getLsbD_sext h0 va hi]
    split
    next => rfl
    next hw => rw [hhigh (w - 1) (Nat.le_refl _) (by omega), hhigh i (by omega) hi]

theorem State.vaWidth_pos (s : State) (st : Stream) : 0 < s.vaWidth st := by
  unfold State.vaWidth
  split <;> decide

theorem State.vaWidth_le (s : State) (st : Stream) : s.vaWidth st ≤ 64 := by
  unfold State.vaWidth
  split <;> decide

/-- The canonical test of a stream on the bits of the address (R60, R122). -/
theorem canonical_vaWidth_iff {s : State} {st : Stream} {va : Word} :
    canonical (s.vaWidth st) va = true ↔ HighBitsEqual (s.vaWidth st) va :=
  canonical_iff_highBitsEqual (s.vaWidth_pos st) (s.vaWidth_le st)

/-- The scan of the windows finds none exactly when none of the three applies (R123). -/
theorem windowHit_eq_none_iff {k : Kind} {va : Word} {s : State} :
    windowHit s (streamOf k) va = none ↔ ∀ n < 3, ¬WindowApplies k va s n := by
  rw [windowHit, List.find?_eq_none]
  simp only [WindowApplies, Bool.and_eq_true]
  constructor
  · intro h n hn
    exact h n (by simp; omega)
  · intro h n hn
    exact h n (by simp at hn; omega)

/-- A translation that reaches the lookup is decided by it (R124). -/
theorem xlateOf_of_reachesLookup {k : Kind} {va : Word} {s : State} (h : ReachesLookup k va s) :
    xlateOf k va s = translateCached k va s := by
  obtain ⟨⟨hvirtual, hhigh⟩, hwindows⟩ := h
  rw [xlateOf_of_not_physical hvirtual, translateVirtual, canonical_vaWidth_iff.mpr hhigh, windowHit_eq_none_iff.mpr hwindows]
  rfl

/-- No slot that answers: a miss in which no entry existed (R124). -/
theorem translateCached_of_no_answer {k : Kind} {va : Word} {s : State}
    (h : ∀ e ∈ (s.tlb (streamOf k)).slots, ¬Answers s.cfg e va s.asn) :
    translateCached k va s = .err (.miss false) := by
  rw [translateCached, Tlb.lookup_eq_none_iff_answers.mpr h]

/-- The first slot that answers decides alone (R125 to R127). -/
theorem translateCached_of_firstAnswer {k : Kind} {va : Word} {s : State} {i : Nat} {e : Slot}
    (h : FirstAnswer s.cfg (s.tlb (streamOf k)) va s.asn i e) :
    translateCached k va s = translateSlot s.cfg k s.cm e va := by
  rw [translateCached, Tlb.lookup_eq_some_iff_firstAnswer.mpr h]

/-- A slot with its valid bit clear is a miss in which an entry existed (R125). -/
theorem translateSlot_of_not_valid {e : Slot} (h : e.flags.getLsbD 0 = false) (c : Config) (k : Kind) (m : BitVec 2)
    (va : Word) : translateSlot c k m e va = .err (.miss true) := if_pos h

/-! ## The diagnostics of a data-stream fault (R133) -/

theorem toNat_excSumOf (insn : Word32) : (excSumOf insn).toNat = insn.toNat / 2 ^ 21 % 2 ^ 5 * 2 ^ 8 := by
  simp only [excSumOf, insnReg, BitVec.toNat_shiftLeft, BitVec.toNat_setWidth, BitVec.extractLsb'_toNat,
    Nat.shiftRight_eq_div_pow, Nat.shiftLeft_eq]
  omega

/-- The status bit by bit: `WR`, then the violation bits, then the opcode. -/
theorem getLsbD_mmstat (k : Kind) (r : FaultReason) (insn : Word32) (i : Nat) :
    (mmstat k r insn).getLsbD i =
      if i < 1 then (BitVec.ofBool (k == .write)).getLsbD i
      else if i - 1 < 3 then (violationBits r).getLsbD (i - 1) else (insnOpcode insn).getLsbD (i - 1 - 3) :=
  BitVec.getLsbD_append.trans (by rw [BitVec.getLsbD_append])

theorem mmstat_wr (k : Kind) (r : FaultReason) (insn : Word32) :
    (mmstat k r insn).getLsbD 0 = true ↔ k = .write := by
  rw [getLsbD_mmstat, if_pos Nat.zero_lt_one]
  simp

/-- The violation bits of an access violation are its causes, `ACV` lowest. -/
theorem violationBits_accessViolation (acv onRead onWrite : Bool) :
    (violationBits (.accessViolation acv onRead onWrite))[0] = acv ∧
      (violationBits (.accessViolation acv onRead onWrite))[1] = onRead ∧
      (violationBits (.accessViolation acv onRead onWrite))[2] = onWrite := by
  revert acv onRead onWrite
  decide

/-- The three violation bits of the status each name their causes (R133). -/
theorem mmstat_causes (k : Kind) (r : FaultReason) (insn : Word32) :
    ((mmstat k r insn).getLsbD 1 = true ↔
        r = .badVirtualAddress ∨ ∃ onRead onWrite, r = .accessViolation true onRead onWrite) ∧
      ((mmstat k r insn).getLsbD 2 = true ↔ ∃ acv onWrite, r = .accessViolation acv true onWrite) ∧
      ((mmstat k r insn).getLsbD 3 = true ↔ ∃ acv onRead, r = .accessViolation acv onRead true) := by
  have hbit : ∀ i < 3, (mmstat k r insn).getLsbD (i + 1) = (violationBits r).getLsbD i := fun i hi => by
    rw [getLsbD_mmstat, if_neg (by omega), Nat.add_sub_cancel, if_pos hi]
  rw [hbit 0 (by decide), hbit 1 (by decide), hbit 2 (by decide)]
  cases r with
  | badVirtualAddress => simp [violationBits]
  | miss existed => simp [violationBits]
  | accessViolation acv onRead onWrite => simp [violationBits_accessViolation]

theorem mmstat_opcode (k : Kind) (r : FaultReason) (insn : Word32) :
    (mmstat k r insn).extractLsb' 4 6 = insn.extractLsb' 26 6 := by
  refine BitVec.eq_of_getLsbD_eq fun i hi => ?_
  rw [BitVec.getLsbD_extractLsb', getLsbD_mmstat, if_neg (by omega), if_neg (by omega),
    show 4 + i - 1 - 3 = i by omega, insnOpcode]
  simp [hi]

/-- The state after a data-stream fault: the diagnostics recorded, then the condition of R132's table placed (R130). -/
def State.afterDataFault (k : Kind) (r : FaultReason) (va : Word) (insn : Word32) (s : State) : State :=
  ((s.recordDataFault k r va insn).withCondition (.vectored (dataVector s.cfg r)) 0).withReply
    ⟨.fault (.vectored (dataVector s.cfg r)), []⟩

theorem State.afterDataFault_excSum (k : Kind) (r : FaultReason) (va : Word) (insn : Word32) (s : State) :
    (s.afterDataFault k r va insn).excSum = excSumOf insn := by
  simp [State.afterDataFault, State.recordDataFault]

theorem State.afterDataFault_mmStat (k : Kind) (r : FaultReason) (va : Word) (insn : Word32) (s : State) :
    (s.afterDataFault k r va insn).mmStat = mmstat k r insn := rfl

/-- What a data-stream fault leaves unchanged (R130, R133). -/
theorem State.afterDataFault_frame (k : Kind) (r : FaultReason) (va : Word) (insn : Word32) (s : State) :
    { s.afterDataFault k r va insn with
      faultVa := s.faultVa, excSum := s.excSum, mmStat := s.mmStat, excCond := s.excCond, excAux := s.excAux,
      reply := s.reply } = s := by
  cases s
  rfl

/-- A failed data-stream MEMX with the instruction word given and the slot free (R130, R131, R201). -/
theorem exec_memx_of_dataFault {k : Kind} {va : Word} {s : State} {r : FaultReason} (hk : k ≠ .execute)
    (hr : xlateOf k va s = .err r) (hfree : s.excCond = none) (insn : Word32) :
    exec (.memx k va (some insn)) s = .next (s.afterDataFault k r va insn) :=
  execMemx_eq_next.mpr (.inr (.inr ⟨r, insn, hr, hk, rfl, raise_eq_next.mpr ⟨hfree, rfl⟩⟩))

end Sys2Proof.Machine

namespace Sys2Proof

open Sys2Proof.Machine Sys2Proof.Claims

/-! ## The obligations -/

/-- Settles O23: a translation that reaches the lookup is decided by the cache, which answers nothing or its first answer. -/
theorem missesTellWhetherAnEntryExisted : Obligations.MissesTellWhetherAnEntryExisted := by
  unfold Obligations.MissesTellWhetherAnEntryExisted
  intro k va s hreach
  simp only [xlateAnswers_iff, xlateOf_of_reachesLookup hreach]
  refine ⟨translateCached_of_no_answer, fun i e hfirst hinvalid => ?_⟩
  rw [translateCached_of_firstAnswer hfirst, translateSlot_of_not_valid hinvalid]

/-- Settles O27: the command ends in `State.afterDataFault`, whose fields are the statement's one by one. -/
theorem dataFaultRecordsItsDiagnostics : Obligations.DataFaultRecordsItsDiagnostics := by
  unfold Obligations.DataFaultRecordsItsDiagnostics
  intro k va insn s r hk hr hfree
  refine ⟨s.afterDataFault k r va insn, exec_memx_of_dataFault hk (xlateAnswers_iff.mp hr) hfree insn, ?_⟩
  rw [State.afterDataFault_excSum, State.afterDataFault_mmStat]
  obtain ⟨hacv, hfor, hfow⟩ := mmstat_causes k r insn
  refine ⟨rfl, toNat_excSumOf insn, mmstat_wr k r insn, hacv, hfor, hfow, mmstat_opcode k r insn, ?_, rfl, rfl,
    s.afterDataFault_frame k r va insn⟩
  cases r with
  | miss existed => cases existed <;> rfl
  | badVirtualAddress => rfl
  | accessViolation acv onRead onWrite => rfl

/-- Settles O19: a fetch in the privileged context skips every step, and the steps do not read the context. -/
theorem privilegedFetchIsPhysical : Obligations.PrivilegedFetchIsPhysical := by
  unfold Obligations.PrivilegedFetchIsPhysical
  simp only [xlateAnswers_iff]
  refine ⟨fun va s hpal => xlateOf_of_physical hpal, fun k va s ctx p r hk hr => ?_⟩
  rw [xlateOf_of_ne_execute hk] at hr ⊢
  rw [translateVirtual_setContext, hr]

end Sys2Proof
end

section
/-! The control registers: the diagnostics of a write with reserved bits on the stored value, the bits of the interrupt masks,
what the writes of ASN and SIRR do to the state, and the obligations on RDCTL and WRCTL (42_control_registers.md R150 to R175). -/

namespace Sys2Proof.Machine

open Sys2Proof.Claims

/-! ## Masks and the diagnostics of reserved bits (R175) -/

/-- No bit lies outside the mask exactly when masking changes nothing. -/
theorem and_compl_eq_zero_iff (v m : Word) : v &&& ~~~m = 0#64 ↔ v = v &&& m := by
  constructor
  · intro h
    calc v = (v &&& m) ||| (v &&& ~~~m) := by ext i hi; cases hm : m[i] <;> simp [hm]
      _ = v &&& m := by rw [h, BitVec.or_zero]
  · intro h
    rw [h, BitVec.and_assoc, BitVec.and_not_self]
    exact BitVec.and_zero

/-- A write is diagnosed exactly when the masked value is not the value written. -/
theorem reservedBits_eq (id : ByteField) (v mask : Word) :
    reservedBits id v mask = if v = v &&& mask then [] else [.diag (.reservedBits id v)] := by
  simp only [reservedBits, and_compl_eq_zero_iff]

theorem toNat_and_lowMask (v : Word) (n : Nat) : (v &&& lowMask n).toNat = v.toNat % 2 ^ n := by
  refine Nat.eq_of_testBit_eq fun i => ?_
  rw [Nat.testBit_mod_two_pow, BitVec.testBit_toNat, BitVec.testBit_toNat, BitVec.getLsbD_and, getLsbD_lowMask]
  by_cases hi : i < 64
  · simp [hi, Bool.and_comm]
  · simp [BitVec.getLsbD_of_ge v i (by omega)]

/-- A write whose register stores the `n` low bits is diagnosed exactly when the value has higher ones. -/
theorem reservedBits_lowMask (id : ByteField) (v : Word) (n : Nat) :
    reservedBits id v (lowMask n) = if v.toNat / 2 ^ n = 0 then [] else [.diag (.reservedBits id v)] := by
  have hfits : v = v &&& lowMask n ↔ v.toNat / 2 ^ n = 0 := by
    rw [← BitVec.toNat_inj, toNat_and_lowMask, eq_comm, Nat.mod_eq_iff_lt (by simp), Nat.div_eq_zero_iff]
    simp
  simp only [reservedBits_eq, hfits]

/-! ## DCTL: bits 5 to 2 (R169) -/

theorem toNat_and_dctlMask (x : BitVec 6) : (x &&& 0x3C#6).toNat = x.toNat / 4 * 4 := by
  revert x
  decide

/-- The mask of DCTL keeps six bits, so masking the word and masking its six low bits give one number. -/
theorem toNat_and_wordDctlMask (v : Word) : (v &&& 0x3C#64).toNat = (v.setWidth 6 &&& 0x3C#6).toNat := by
  rw [BitVec.toNat_and, BitVec.toNat_and, BitVec.toNat_setWidth, ← Nat.and_two_pow_sub_one_eq_mod, Nat.and_assoc]
  rfl

/-! ## The interrupt masks (R29) and the request line (R47) -/

theorem getLsbD_hwintMask (c : Config) {i : Nat} (hi : i < 64) :
    (hwintMask c).getLsbD i = decide (c.hwintShift ≤ i ∧ i < c.hwintShift + c.hwintCount) := by
  rw [hwintMask, BitVec.getLsbD_shiftLeft, getLsbD_lowMask]
  by_cases hlo : i < c.hwintShift
  · simp [hlo]
  · simp only [hi, hlo, show i - c.hwintShift < 64 by omega, decide_true, decide_false, Bool.not_false, Bool.true_and,
      Bool.and_true, decide_eq_decide]
    omega

theorem getLsbD_ierMask (c : Config) {i : Nat} (hi : i < 64) :
    (ierMask c).getLsbD i =
      (c.swintMask.getLsbD i || decide (c.hwintShift ≤ i ∧ i < c.hwintShift + c.hwintCount)) := by
  rw [ierMask, BitVec.getLsbD_or, getLsbD_hwintMask c hi, Bool.or_comm]

theorem State.irqLine_iff (s : State) : s.irqLine = true ↔ s.isum ≠ 0#64 ∧ s.pal = false := by
  simp [State.irqLine]

/-! ## The write of ASN (R154) -/

/-- The ASN changes and flushing is on: either cache is flushed. -/
theorem State.tlb_changeAsn_of_flushes {n : Word} {s : State} (hne : n ≠ s.asn) (hf : s.cfg.asnWriteFlushes = true)
    (st : Stream) : (s.changeAsn n).tlb st = (s.tlb st).flushAll := by
  rw [State.changeAsn, if_pos ⟨hne, hf⟩]
  cases st <;> rfl

/-- The ASN keeps its value or flushing is off: only the register is written. -/
theorem State.changeAsn_of_keeps {n : Word} {s : State} (h : n = s.asn ∨ s.cfg.asnWriteFlushes = false) :
    s.changeAsn n = { s with asn := n } := by
  rw [State.changeAsn, if_neg]
  rintro ⟨hne, hf⟩
  exact h.elim hne (by simp [hf])

/-- The write of ASN leaves everything but the register and the caches unchanged. -/
theorem State.changeAsn_frame (n : Word) (s : State) :
    { s.changeAsn n with asn := s.asn, itb := s.itb, dtb := s.dtb, reply := s.reply } = s := by
  unfold State.changeAsn
  split <;> rfl

/-! ## The write of SIRR (R159) -/

/-- The software field of IPEND is replaced by the value written, the rest of IPEND stays. -/
theorem State.getLsbD_setSirr_ipend (v : Word) (s : State) (i : Nat) :
    (s.setSirr (v &&& s.cfg.swintMask)).ipend.getLsbD i =
      if s.cfg.swintMask.getLsbD i = true then v.getLsbD i else s.ipend.getLsbD i := by
  by_cases hi : i < 64
  · simp only [State.setSirr, BitVec.getLsbD_or, BitVec.getLsbD_and, BitVec.getLsbD_not]
    cases s.cfg.swintMask.getLsbD i <;> simp [hi]
  · simp [BitVec.getLsbD_of_ge _ i (Nat.le_of_not_lt hi)]

/-! ## How a register command ends (R150, R153) -/

/-- A command that answers a value ends with it, with no event. -/
theorem ends_of_exec_eq_answer {i : Instr} {v : Word} {s t : State} (h : exec i s = answer v t) :
    Ends i s (.value v) [] t := h

/-- A command that ignores a write ends with the diagnostic on the state it found. -/
theorem ends_of_exec_eq_ignoreWrite {i : Instr} {id : ByteField} {v : Word} {s : State}
    (h : exec i s = ignoreWrite id v s) : Ends i s (.value 0) [.diag (.unmodeledWrite id v)] s := h

end Sys2Proof.Machine

namespace Sys2Proof

open Sys2Proof.Machine Sys2Proof.Claims

/-! ## The obligations -/

/-- Settles O32, by whether the write flushes: then either cache is its own flush, in which no address hits; otherwise only the
register is written. -/
theorem writingAnotherAsnFlushesBothCaches : Obligations.WritingAnotherAsnFlushesBothCaches := by
  unfold Obligations.WritingAnotherAsnFlushesBothCaches
  intro v s
  refine ⟨(s.changeAsn (asnOf s.cfg v)).withReply ⟨.done (.value 0), reservedBits 0x00 v (lowMask s.cfg.asnBits)⟩, rfl, rfl,
    rfl, rfl, fun (hne : asnOf s.cfg v ≠ s.asn) hf st => ?_,
    fun (hkeeps : asnOf s.cfg v = s.asn ∨ _) => ?_, s.changeAsn_frame (asnOf s.cfg v)⟩
  · rw [State.tlb_withReply, State.tlb_changeAsn_of_flushes hne hf]
    exact ⟨Tlb.getElem?_flushAll _, Tlb.next_flushAll _, Tlb.lookup_flushAll _ _⟩
  · rw [State.changeAsn_of_keeps hkeeps]
    exact ⟨rfl, rfl⟩

/-- Settles O33: each write stores its masked value, and the diagnostic tells whether masking changed it. -/
theorem maskedRegistersStoreTheirFields : Obligations.MaskedRegistersStoreTheirFields := by
  unfold Obligations.MaskedRegistersStoreTheirFields
  intro v s
  refine ⟨rfl, rfl, rfl, ?cm, ?ier, ?dctl⟩
  case cm =>
    refine ⟨_, rfl, BitVec.toNat_setWidth 2 v, ?_, rfl⟩
    rw [State.withReply_reply, show (3#64 : Word) = lowMask 2 from rfl, reservedBits_lowMask]
    rfl
  case ier =>
    refine ⟨_, rfl, fun i hi => ?_, rfl, State.irqLine_iff _, ?_, rfl⟩
    · rw [State.withReply_ier, BitVec.getLsbD_and, getLsbD_ierMask s.cfg hi]
    · rw [State.withReply_reply, reservedBits_eq]
      rfl
  case dctl =>
    refine ⟨_, rfl, ?_, ?_, rfl⟩
    · rw [State.withReply_dctl, toNat_and_dctlMask, BitVec.toNat_setWidth]
      omega
    · simp only [State.withReply_reply, State.withReply_dctl, reservedBits_eq, ← BitVec.toNat_inj, toNat_and_wordDctlMask]

/-- Settles O34, bit by bit: inside the software mask both registers take the value's bit, outside it IPEND keeps its own. -/
theorem sirrWriteCopiesIntoIpend : Obligations.SirrWriteCopiesIntoIpend := by
  unfold Obligations.SirrWriteCopiesIntoIpend
  intro v s
  refine ⟨_, rfl, rfl, fun _ _ => BitVec.getLsbD_and, fun i _ => State.getLsbD_setSirr_ipend v s i, rfl, ?_, rfl⟩
  rw [State.withReply_reply, reservedBits_eq]
  rfl

/-- Settles O29: every RDCTL answers a value on the state it found. -/
theorem rdctlAnswersTheRegister : Obligations.RdctlAnswersTheRegister := by
  unfold Obligations.RdctlAnswersTheRegister
  intro s
  refine ⟨List.forall_iff_forall_mem.mp ?_, List.forall_iff_forall_mem.mp ?_, fun id => ends_of_exec_eq_answer rfl⟩
  · and_intros <;> exact ends_of_exec_eq_answer rfl
  · and_intros <;> exact ends_of_exec_eq_answer rfl

/-- Settles O30: each write answers zero on the state with its register replaced, each read the register. -/
theorem plainRegistersStoreTheWholeValue : Obligations.PlainRegistersStoreTheWholeValue := by
  unfold Obligations.PlainRegistersStoreTheWholeValue
  intro v s
  and_intros <;> exact ends_of_exec_eq_answer rfl

/-- Settles O31: every one of these commands is `ignoreWrite` of its id. -/
theorem ignoredWritesOnlyDiagnose : Obligations.IgnoredWritesOnlyDiagnose := by
  unfold Obligations.IgnoredWritesOnlyDiagnose
  intro v s
  refine ⟨List.forall_iff_forall_mem.mp ?_, fun id => ends_of_exec_eq_ignoreWrite rfl⟩
  and_intros <;> exact ends_of_exec_eq_ignoreWrite rfl

/-- Settles O37: each register write runs the operation of its TLB command on the same stream; the replies of TBIA's and
TBIAP's registers alone differ, by their event. -/
theorem tlbRegistersActAsTheTlbCommands : Obligations.TlbRegistersActAsTheTlbCommands := by
  unfold Obligations.TlbRegistersActAsTheTlbCommands
  intro v s
  refine ⟨⟨_, rfl, rfl, rfl⟩, ⟨_, rfl, rfl, rfl⟩, ⟨_, rfl, rfl⟩, ⟨_, rfl, rfl⟩, ⟨_, rfl, rfl⟩, ⟨_, rfl, rfl⟩,
    ⟨_, rfl, rfl⟩, ⟨_, rfl, rfl⟩, List.forall_iff_forall_mem.mp ?_⟩
  and_intros <;> exact ends_of_exec_eq_answer rfl

end Sys2Proof
end

section
/-! The dispatcher: the command words of opcodes that take no index, the transition of DISPATCH on the state and on the visible
registers, the return to a privileged target, and the hardware field of IPEND bit by bit (43_dispatch.md), with the obligations
on DISPATCH, PALRET's redirect, IRQ, RS and RC. -/

namespace Sys2Proof

open Sys2Proof.Claims

/-! ## The words of a command of format N (R82) -/

/-- An opcode that decodes with its index and modifier zero has its one word, whatever the operand ports hold. -/
theorem opensAs_plainWord (opc : ByteField) (f : Word → Word → Instr)
    (hf : ∀ c, decodeFields opc.toNat 0 0 c = .instr (f c.a c.b)) : OpensAs (word opc 0 0) f :=
  fun a b insn valid => (decode_word opc 0 0 a b insn valid).trans (hf _)

end Sys2Proof

namespace Sys2Proof.Machine

/-! ## What a well-formed configuration gives the dispatcher -/

theorem callLinkReg_of_wf {c : Config} (h : c.wf = true) : c.callLinkReg < c.ngpr ∧ c.callLinkReg ≠ 31 := by
  simp only [Config.wf, Bool.and_eq_true, decide_eq_true_eq] at h
  obtain ⟨⟨⟨-, hlink⟩, -⟩, -⟩ := h
  exact hlink

theorem hwintField_of_wf {c : Config} (h : c.wf = true) : c.hwintShift + c.hwintCount ≤ 64 := by
  simp only [Config.wf, Bool.and_eq_true, decide_eq_true_eq] at h
  obtain ⟨⟨-, hfield⟩, -⟩ := h
  exact hfield

/-! ## Taking a condition (R203 to R205) -/

/-- The prior mode in bit 0 of `EXC_ADDR`: step 1 of R203. -/
theorem or_bitWord (v : Word) (b : Bool) : v ||| bitWord b = if b = true then v ||| 1 else v := by
  cases b
  · exact BitVec.or_zero
  · rfl

/-- In privileged mode the request line is low (R47). -/
theorem State.irqLine_of_pal {s : State} (h : s.pal = true) : s.irqLine = false := by
  simp [State.irqLine, h]

theorem State.swapOnEntry_eq (s : State) :
    s.swapOnEntry = if s.sde = true ∧ s.pal = false then s.swapShadow else s := by
  simp only [State.swapOnEntry, Bool.and_eq_true, Bool.not_eq_true']

theorem State.length_x_swapOnEntry (s : State) : s.swapOnEntry.x.length = s.x.length := by
  unfold State.swapOnEntry
  split
  · exact (length_swapBanks _ _ _).1
  · rfl

/-- The visible registers after the transition: the link register of the bank then visible holds the old pc after a call-class
entry, every other register what the swap left there. -/
theorem readX_takeCondition {s : State} (h : s.Inv) (off : Offset) (n : Nat) :
    (s.takeCondition off).readX n =
      if isCallVec s.cfg off = true ∧ s.callr = true ∧ n = s.cfg.callLinkReg then s.pc else s.swapOnEntry.readX n := by
  obtain ⟨hlt, hne⟩ := callLinkReg_of_wf h.cfg
  have hlink : s.cfg.callLinkReg < s.swapOnEntry.x.length := by rwa [State.length_x_swapOnEntry, h.x]
  obtain ⟨hx, -⟩ := takeCondition_banks off s
  rw [← State.swapOnEntry_eq] at hx
  rw [State.readX, hx]
  by_cases hcall : isCallVec s.cfg off = true ∧ s.callr = true
  · rw [if_pos hcall]
    by_cases hn : n = s.cfg.callLinkReg
    · rw [if_pos ⟨hcall.1, hcall.2, hn⟩, hn, readReg_writeReg_self hlink hne]
    · rw [if_neg fun hall => hn hall.2.2, readReg_writeReg_other hn, State.readX]
  · rw [if_neg hcall, if_neg fun hall => hcall ⟨hall.1, hall.2.1⟩, State.readX]

/-- The transition leaves everything but the pc, the mode, both banks, `EXC_ADDR` and the condition slot unchanged. -/
theorem takeCondition_otherFields (off : Offset) (s : State) :
    { s.takeCondition off with
      excAddr := s.excAddr, excCond := s.excCond, excAux := s.excAux, pc := s.pc, pal := s.pal,
      xlateCtx := s.xlateCtx, x := s.x, sh := s.sh, reply := s.reply } = s := by
  unfold State.takeCondition State.linkCall State.swapOnEntry
  split <;> split <;> rfl

theorem dispatchCondition_of_excCond_eq_none {s : State} (h : s.excCond = none) :
    dispatchCondition s = .refused .nothingRaised := by
  rw [dispatchCondition, h]

/-! ## Returning (R207 to R209) -/

theorem returnFromPal_of_normal {s : State} (h : s.pal = false) (target : Word) :
    returnFromPal target s = .refused .notPrivileged := if_pos h

/-- A return to a privileged target stays in the mode, so nothing is swapped. -/
theorem State.returnTo_of_privileged {s : State} {target : Word} (hpal : s.pal = true) (ht : target.getLsbD 0 = true) :
    s.returnTo target = { s with pc := target &&& ~~~3#64, xlateCtx := .pal } := by
  have hstays : ¬(s.sde && (target.getLsbD 0 != s.pal)) = true := by simp [hpal, ht]
  rw [State.returnTo, if_neg hstays]
  simp [State.setMode, hpal, ht]

/-! ## The hardware field of IPEND (R210) -/

theorem getLsbD_irqLines (c : Config) (a : Word) {i : Nat} (hi : i < 64) :
    (irqLines c a).getLsbD i =
      (decide (c.hwintShift ≤ i ∧ i < c.hwintShift + c.hwintCount) && a.getLsbD (i - c.hwintShift)) := by
  rw [irqLines, BitVec.getLsbD_shiftLeft, BitVec.getLsbD_and, getLsbD_lowMask]
  by_cases hlo : i < c.hwintShift
  · simp [hlo]
  · have hfield : i - c.hwintShift < c.hwintCount ↔ c.hwintShift ≤ i ∧ i < c.hwintShift + c.hwintCount := by omega
    simp [hi, hlo, show i - c.hwintShift < 64 by omega, hfield, Bool.and_comm]

/-- Inside the hardware field IPEND takes the line of that bit, outside it keeps its own. -/
theorem State.getLsbD_deliver_ipend (a : Word) (s : State) {i : Nat} (hi : i < 64) :
    (s.deliver a).ipend.getLsbD i =
      if s.cfg.hwintShift ≤ i ∧ i < s.cfg.hwintShift + s.cfg.hwintCount then a.getLsbD (i - s.cfg.hwintShift)
      else s.ipend.getLsbD i := by
  rw [State.deliver, BitVec.getLsbD_or, BitVec.getLsbD_and, BitVec.getLsbD_not, getLsbD_hwintMask s.cfg hi,
    getLsbD_irqLines s.cfg a hi]
  by_cases hin : s.cfg.hwintShift ≤ i ∧ i < s.cfg.hwintShift + s.cfg.hwintCount
  · simp [hin]
  · simp [hi, hin]

end Sys2Proof.Machine

namespace Sys2Proof

open Sys2Proof.Machine Sys2Proof.Claims

/-! ## The obligations -/

/-- Settles O40: with a condition raised the command ends in the transition, whose fields `takeCondition_frame` gives and whose
registers are those of the swap with the link write on top. -/
theorem dispatchTakesTheCondition : Obligations.DispatchTakesTheCondition := by
  unfold Obligations.DispatchTakesTheCondition
  refine ⟨opensAs_plainWord 0x19 (fun _ _ => .dispatch) fun _ => rfl,
    fun s hnone => dispatchCondition_of_excCond_eq_none hnone, fun s c hinv hc => ?_⟩
  intro off entered
  have hoff : off = vectorOf s.cfg c := by
    cases c with
    | generic g => cases g <;> rfl
    | vectored v => rfl
  have hentered : entered = s.swapOnEntry := s.swapOnEntry_eq.symm
  clear_value off entered
  subst hoff hentered
  obtain ⟨hexcAddr, hpc, hpal, hctx, hcond, haux, -⟩ := takeCondition_frame (vectorOf s.cfg c) s
  refine ⟨_, dispatchCondition_eq_next.mpr ⟨c, hc, rfl⟩, hexcAddr.trans (or_bitWord _ _), hcond, haux, hpc, hpal, hctx,
    State.irqLine_of_pal hpal, ?banks, readX_takeCondition hinv _, ?reply, takeCondition_otherFields _ s⟩
  case banks => rw [State.swapOnEntry_eq]; exact (takeCondition_banks _ s).2
  case reply => rw [State.withReply_reply, State.withReply_pc, hpc]

/-- Settles O44, bit by bit: a line below `HWINT_COUNT` lies in the hardware field, which a well-formed configuration keeps
inside the word. -/
theorem irqReplacesTheHardwareField : Obligations.IrqReplacesTheHardwareField := by
  unfold Obligations.IrqReplacesTheHardwareField
  refine ⟨opensAs_plainWord 0x1B (fun a _ => .irq a) fun _ => rfl, fun lines s hwf => ?_⟩
  have hfield := hwintField_of_wf hwf
  refine ⟨(s.deliver lines).withReply ⟨.done (.value 0), []⟩, rfl, fun n hn => ?_, fun i hi hout => ?_, rfl,
    State.irqLine_iff _, rfl, rfl⟩
  · rw [State.withReply_ipend, State.getLsbD_deliver_ipend _ _ (by omega), if_pos (by omega), Nat.add_sub_cancel_left]
  · rw [State.withReply_ipend, State.getLsbD_deliver_ipend _ _ hi, if_neg (by omega)]

/-- Settles O42, by PALRET's three outcomes: the redirect, the completed return to a privileged target, the refusal. -/
theorem palretRedirectsToThePendingInterrupt : Obligations.PalretRedirectsToThePendingInterrupt := by
  unfold Obligations.PalretRedirectsToThePendingInterrupt
  refine fun target s => ⟨fun hpal hisum ht => ?redirected, fun hpal ht => ?privileged,
    fun hpal => returnFromPal_of_normal hpal target⟩
  case redirected => exact returnFromPal_eq_next.mpr ⟨hpal, .inl ⟨hisum, ht, rfl⟩⟩
  case privileged =>
    have hstays : ¬(s.isum ≠ 0#64 ∧ target.getLsbD 0 = false) := by simp [ht]
    refine returnFromPal_eq_next.mpr ⟨hpal, .inr ⟨hstays, ?_⟩⟩
    rw [State.returnTo_of_privileged hpal ht]
    rfl

/-- Settles O45: both commands answer the flag as a word on the state with the flag written. -/
theorem rsAndRcAnswerTheOldFlag : Obligations.RsAndRcAnswerTheOldFlag := by
  unfold Obligations.RsAndRcAnswerTheOldFlag
  exact ⟨opensAs_plainWord 0x1C (fun _ _ => .rs) fun _ => rfl, opensAs_plainWord 0x1D (fun _ _ => .rc) fun _ => rfl,
    fun s => ⟨ends_of_exec_eq_answer rfl, ends_of_exec_eq_answer rfl⟩⟩

end Sys2Proof
end

section
/-! The floating-format codec on numbers: the fields of the images and of the IEEE formats, the reserved operands, and what each
conversion gives by the exponent of its operand (44_float_codec.md R231 to R237), with the obligations on CVTFS, CVTSF, CVTGT
and CVTTG. -/

namespace Sys2Proof.Machine

open Sys2Proof.Claims

/-! ## Fields as numbers (R231, R232) -/

/-- A concatenation is the sum of its parts, the upper one shifted. -/
theorem toNat_append_eq_add {m n : Nat} (x : BitVec m) (y : BitVec n) :
    (x ++ y).toNat = x.toNat * 2 ^ n + y.toNat := by
  rw [BitVec.toNat_append, ← Nat.shiftLeft_add_eq_or_of_lt y.isLt, Nat.shiftLeft_eq]

/-- The number of a sign, an exponent and a fraction. -/
theorem toNat_signExpFrac {m n : Nat} (sign : Bool) (e : BitVec m) (f : BitVec n) :
    (BitVec.ofBool sign ++ e ++ f).toNat = (sign.toNat * 2 ^ m + e.toNat) * 2 ^ n + f.toNat := by
  rw [toNat_append_eq_add, toNat_append_eq_add, BitVec.toNat_ofBool]

/-- The top bit of a word is the quotient by its weight. -/
theorem toNat_getLsbD_last {n : Nat} (x : BitVec (n + 1)) : (x.getLsbD n).toNat = x.toNat / 2 ^ n := by
  have hquot : x.toNat / 2 ^ n < 2 := Nat.div_lt_of_lt_mul (pow_succ 2 n ▸ x.isLt)
  rw [← BitVec.testBit_toNat, Nat.toNat_testBit, Nat.mod_eq_of_lt hquot]

theorem toNat_imageSign (a : Word) : (imageSign a).toNat = a.toNat / 2 ^ 63 := toNat_getLsbD_last a

theorem toNat_formatFExp (a : Word) :
    (formatFExp a).toNat = a.toNat / 2 ^ 62 % 2 * 2 ^ 7 + a.toNat / 2 ^ 52 % 2 ^ 7 := by
  simp only [formatFExp, toNat_append_eq_add, BitVec.extractLsb'_toNat, Nat.shiftRight_eq_div_pow, pow_one]

theorem toNat_formatFFrac (a : Word) : (formatFFrac a).toNat = a.toNat / 2 ^ 29 % 2 ^ 23 := by
  rw [formatFFrac, BitVec.extractLsb'_toNat, Nat.shiftRight_eq_div_pow]

theorem toNat_singleExp (b : Word32) : (singleExp b).toNat = b.toNat / 2 ^ 23 % 2 ^ 8 := by
  rw [singleExp, BitVec.extractLsb'_toNat, Nat.shiftRight_eq_div_pow]

theorem toNat_singleFrac (b : Word32) : (singleFrac b).toNat = b.toNat % 2 ^ 23 := by
  rw [singleFrac, BitVec.extractLsb'_toNat, Nat.shiftRight_zero]

theorem toNat_imageExp (a : Word) : (imageExp a).toNat = a.toNat / 2 ^ 52 % 2 ^ 11 := by
  rw [imageExp, BitVec.extractLsb'_toNat, Nat.shiftRight_eq_div_pow]

theorem toNat_imageFrac (a : Word) : (imageFrac a).toNat = a.toNat % 2 ^ 52 := by
  rw [imageFrac, BitVec.extractLsb'_toNat, Nat.shiftRight_zero]

/-- The fill of an expanded exponent that is not zero is decided by the exponent's bit 7 alone (R231). -/
theorem toNat_expandExp {e : BitVec 8} (he : e.toNat ≠ 0) :
    (expandExp e).toNat =
      (e.toNat / 2 ^ 7 * 2 ^ 3 + if 2 ^ 7 ≤ e.toNat then 0 else 7) * 2 ^ 7 + e.toNat % 2 ^ 7 := by
  have htop : e.getLsbD 7 = true ↔ 2 ^ 7 ≤ e.toNat := by
    rw [← Bool.toNat_eq_one, toNat_getLsbD_last (n := 7) e]
    omega
  have hfill : (if e.getLsbD 7 = true ∨ e = 0#8 then 0#3 else 7#3).toNat = if 2 ^ 7 ≤ e.toNat then 0 else 7 := by
    have hne : e ≠ 0#8 := fun h => he (congrArg BitVec.toNat h)
    simp only [htop, hne, or_false]
    split <;> rfl
  have hbit : e.toNat / 2 ^ 7 < 2 ^ 1 := by omega
  rw [expandExp, toNat_append_eq_add, toNat_append_eq_add, hfill, BitVec.extractLsb'_toNat, BitVec.extractLsb'_toNat,
    Nat.shiftRight_zero, Nat.shiftRight_eq_div_pow, Nat.mod_eq_of_lt hbit]

/-! ## The reserved operands (R233, R236) -/

/-- A reserved operand has a zero exponent under a sign or a fraction that is not zero, at every width. -/
theorem reserved_iff {m n : Nat} {sign : Bool} {e : BitVec m} {f : BitVec n} :
    (e == 0#m && (sign || f != 0#n)) = true ↔ e.toNat = 0 ∧ (sign.toNat ≠ 0 ∨ f.toNat ≠ 0) := by
  simp [← BitVec.toNat_inj]

theorem reservedF_iff {a : Word} :
    reservedF a = true ↔ (formatFExp a).toNat = 0 ∧ ((imageSign a).toNat ≠ 0 ∨ (formatFFrac a).toNat ≠ 0) :=
  reserved_iff

theorem not_reservedF_of_exp_ne_zero {a : Word} (h : (formatFExp a).toNat ≠ 0) : ¬reservedF a = true :=
  fun hr => h (reservedF_iff.mp hr).left

theorem reservedG_iff {a : Word} :
    reservedG a = true ↔ (imageExp a).toNat = 0 ∧ ((imageSign a).toNat ≠ 0 ∨ (imageFrac a).toNat ≠ 0) :=
  reserved_iff

theorem not_reservedG_of_exp_ne_zero {a : Word} (h : (imageExp a).toNat ≠ 0) : ¬reservedG a = true :=
  fun hr => h (reservedG_iff.mp hr).left

/-! ## What each conversion gives, by the exponent (R233 to R237) -/

section
variable {c : Config} {a : Word} {b : Word32}

theorem cvtFS_of_exp_eq_zero (h : (formatFExp a).toNat = 0) : cvtFS c a = 0#32 :=
  if_pos (BitVec.toNat_inj.mp h)

theorem cvtFS_of_exp_lt_three (h0 : (formatFExp a).toNat ≠ 0) (h3 : (formatFExp a).toNat < 3) :
    cvtFS c a = fUnderflow c (imageSign a) (formatFExp a) (formatFFrac a) := by
  rw [cvtFS, if_neg fun h => h0 (congrArg BitVec.toNat h), if_pos h3]

theorem toNat_cvtFS_of_three_le_exp (h : 3 ≤ (formatFExp a).toNat) :
    (cvtFS c a).toNat =
      (imageSign a).toNat * 2 ^ 31 + ((formatFExp a).toNat - 2) * 2 ^ 23 + (formatFFrac a).toNat := by
  have h0 : formatFExp a ≠ 0#8 := fun h' => by simp [h'] at h
  have hsub : (formatFExp a - 2#8).toNat = (formatFExp a).toNat - 2 :=
    BitVec.toNat_sub_of_le (BitVec.le_def.mpr (show 2 ≤ _ by omega))
  rw [cvtFS, if_neg h0, if_neg (Nat.not_lt.mpr h), toNat_signExpFrac, hsub]
  ring

theorem cvtSF_of_254_le_exp (h : 254 ≤ (singleExp b).toNat) : cvtSF b = dirtyZero := by
  have h0 : singleExp b ≠ 0#8 := fun h' => by simp [h'] at h
  rw [cvtSF, if_neg h0, if_pos h, ite_self]

theorem cvtSF_of_exp_eq_zero (h : (singleExp b).toNat = 0) : cvtSF b = 0#64 := by
  have h0 : singleExp b = 0#8 := BitVec.toNat_inj.mp h
  rw [cvtSF, if_neg (by simp [h0]), if_pos h0]

theorem toNat_cvtSF_of_exp_le_253 (h0 : 1 ≤ (singleExp b).toNat) (h253 : (singleExp b).toNat ≤ 253) :
    (cvtSF b).toNat =
      (b.getLsbD 31).toNat * 2 ^ 63 + ((singleExp b).toNat + 2) / 2 ^ 7 * 2 ^ 62 +
        (if 2 ^ 7 ≤ (singleExp b).toNat + 2 then 0 else 7) * 2 ^ 59 + ((singleExp b).toNat + 2) % 2 ^ 7 * 2 ^ 52 +
        (singleFrac b).toNat * 2 ^ 29 := by
  have hne255 : singleExp b ≠ 255#8 := fun h' => by simp [h'] at h253
  have hne0 : singleExp b ≠ 0#8 := fun h' => by simp [h'] at h0
  have hadd : (singleExp b + 2#8).toNat = (singleExp b).toNat + 2 :=
    BitVec.toNat_add_of_lt (show _ + 2 < 2 ^ 8 by omega)
  rw [cvtSF, if_neg hne255, if_neg hne0, if_neg (by omega), toNat_append_eq_add, toNat_signExpFrac,
    toNat_expandExp (by omega), hadd, BitVec.toNat_zero]
  ring

theorem cvtGT_of_exp_eq_zero (h : (imageExp a).toNat = 0) : cvtGT c a = 0#64 :=
  if_pos (BitVec.toNat_inj.mp h)

theorem cvtGT_of_exp_lt_three (h0 : (imageExp a).toNat ≠ 0) (h3 : (imageExp a).toNat < 3) :
    cvtGT c a = gUnderflow c (imageSign a) (imageExp a) (imageFrac a) := by
  rw [cvtGT, if_neg fun h => h0 (congrArg BitVec.toNat h), if_pos h3]

theorem toNat_cvtGT_of_three_le_exp (h : 3 ≤ (imageExp a).toNat) :
    (cvtGT c a).toNat =
      (imageSign a).toNat * 2 ^ 63 + ((imageExp a).toNat - 2) * 2 ^ 52 + (imageFrac a).toNat := by
  have h0 : imageExp a ≠ 0#11 := fun h' => by simp [h'] at h
  have hsub : (imageExp a - 2#11).toNat = (imageExp a).toNat - 2 :=
    BitVec.toNat_sub_of_le (BitVec.le_def.mpr (show 2 ≤ _ by omega))
  rw [cvtGT, if_neg h0, if_neg (Nat.not_lt.mpr h), toNat_signExpFrac, hsub]
  ring

theorem cvtTG_of_2046_le_exp (h : 2046 ≤ (imageExp a).toNat) : cvtTG a = dirtyZero := by
  have h0 : imageExp a ≠ 0#11 := fun h' => by simp [h'] at h
  rw [cvtTG, if_neg h0, if_pos h, ite_self]

theorem cvtTG_of_exp_eq_zero (h : (imageExp a).toNat = 0) : cvtTG a = 0#64 := by
  have h0 : imageExp a = 0#11 := BitVec.toNat_inj.mp h
  rw [cvtTG, if_neg (by simp [h0]), if_pos h0]

theorem toNat_cvtTG_of_exp_le_2045 (h0 : 1 ≤ (imageExp a).toNat) (h2045 : (imageExp a).toNat ≤ 2045) :
    (cvtTG a).toNat =
      (imageSign a).toNat * 2 ^ 63 + ((imageExp a).toNat + 2) * 2 ^ 52 + (imageFrac a).toNat := by
  have hne2047 : imageExp a ≠ 2047#11 := fun h' => by simp [h'] at h2045
  have hne0 : imageExp a ≠ 0#11 := fun h' => by simp [h'] at h0
  have hadd : (imageExp a + 2#11).toNat = (imageExp a).toNat + 2 :=
    BitVec.toNat_add_of_lt (show _ + 2 < 2 ^ 11 by omega)
  rw [cvtTG, if_neg hne2047, if_neg hne0, if_neg (by omega), toNat_signExpFrac, hadd]
  ring

end

/-! ## How a conversion ends (R201, R233, R236) -/

section
variable {a : Word} {s : State}

/-- A raise with the slot free places the condition, as the statements write the state after it. -/
theorem raise_eq_next_raised (hfree : s.excCond = none) (c : Condition) (aux : Word) :
    raise c aux s = .next (Raised c aux s) := raise_eq_next.mpr ⟨hfree, rfl⟩

theorem exec_cvtfs_of_reserved (h : reservedF a = true) (hfree : s.excCond = none) :
    exec (.cvtfs a) s = .next (Raised (.generic .opcdec) 0 s) := (if_pos h).trans (raise_eq_next_raised hfree _ _)

theorem ends_cvtfs {v : Word32} (h : ¬reservedF a = true) (hv : cvtFS s.cfg a = v) :
    Ends (.cvtfs a) s (.value (v.setWidth 64)) [] s := hv ▸ ends_of_exec_eq_answer (if_neg h)

theorem ends_cvtsf {b : Word32} {v : Word} (hv : cvtSF b = v) : Ends (.cvtsf b) s (.value v) [] s :=
  hv ▸ ends_of_exec_eq_answer rfl

theorem exec_cvtgt_of_reserved (h : reservedG a = true) (hfree : s.excCond = none) :
    exec (.cvtgt a) s = .next (Raised (.generic .opcdec) 0 s) := (if_pos h).trans (raise_eq_next_raised hfree _ _)

theorem ends_cvtgt {v : Word} (h : ¬reservedG a = true) (hv : cvtGT s.cfg a = v) :
    Ends (.cvtgt a) s (.value v) [] s := hv ▸ ends_of_exec_eq_answer (if_neg h)

theorem ends_cvttg {v : Word} (hv : cvtTG a = v) : Ends (.cvttg a) s (.value v) [] s :=
  hv ▸ ends_of_exec_eq_answer rfl

end

/-! ## A constant underflow (R8) -/

theorem fUnderflow_of_constant {c : Config} {u : Word32} (h : c.fUnderflow = .constant u) (sign : Bool) (e : BitVec 8)
    (f : BitVec 23) : fUnderflow c sign e f = u := by
  rw [fUnderflow, h]

theorem gUnderflow_of_constant {c : Config} {u : Word} (h : c.gUnderflow = .constant u) (sign : Bool) (e : BitVec 11)
    (f : BitVec 52) : gUnderflow c sign e f = u := by
  rw [gUnderflow, h]

end Sys2Proof.Machine

namespace Sys2Proof

open Sys2Proof.Machine Sys2Proof.Claims

/-! ## The obligations -/

/-- Settles O48, by the exponent of the operand: only a zero one can be reserved. -/
theorem cvtfsConvertsFormatF : Obligations.CvtfsConvertsFormatF := by
  unfold Obligations.CvtfsConvertsFormatF
  refine ⟨opensAs_plainWord 0x20 (fun a _ => .cvtfs a) fun _ => rfl, fun a s => ?_⟩
  dsimp only
  rw [← toNat_imageSign, ← toNat_formatFExp, ← toNat_formatFFrac]
  refine ⟨fun h0 hnonzero hfree => exec_cvtfs_of_reserved (reservedF_iff.mpr ⟨h0, hnonzero⟩) hfree,
    fun h0 hsign hfrac => ?zero, fun h12 => ?underflow, fun h3 => ?normal⟩
  case zero =>
    have hvalid : ¬reservedF a = true := by rw [reservedF_iff]; omega
    exact ends_cvtfs hvalid (cvtFS_of_exp_eq_zero h0)
  case underflow =>
    have hne : (formatFExp a).toNat ≠ 0 := by omega
    simp only [Bool.toNat_eq_one, Bool.decide_eq_true, BitVec.ofNat_toNat, BitVec.setWidth_eq]
    exact ⟨_, ends_cvtfs (not_reservedF_of_exp_ne_zero hne) (cvtFS_of_exp_lt_three hne (by omega)), rfl,
      fun u hu => fUnderflow_of_constant hu _ _ _⟩
  case normal =>
    refine ⟨_, ends_cvtfs (not_reservedF_of_exp_ne_zero (by omega)) rfl, ?_⟩
    rw [BitVec.toNat_setWidth_of_le (by decide), toNat_cvtFS_of_three_le_exp h3]

/-- Settles O49, by the exponent of the operand. -/
theorem cvtsfConvertsSingle : Obligations.CvtsfConvertsSingle := by
  unfold Obligations.CvtsfConvertsSingle
  refine ⟨opensAs_plainWord 0x21 (fun a _ => .cvtsf (a.setWidth 32)) fun _ => rfl, fun b s => ?_⟩
  dsimp only
  rw [← toNat_getLsbD_last (n := 31) b, ← toNat_singleExp, ← toNat_singleFrac]
  exact ⟨fun h => ends_cvtsf (cvtSF_of_254_le_exp h), fun h => ends_cvtsf (cvtSF_of_exp_eq_zero h),
    fun h0 h253 => ⟨_, ends_cvtsf rfl, toNat_cvtSF_of_exp_le_253 h0 h253⟩⟩

/-- Settles O51, by the exponent of the operand: for CVTGT only a zero one can be reserved. -/
theorem cvtgtAndCvttgConvert : Obligations.CvtgtAndCvttgConvert := by
  unfold Obligations.CvtgtAndCvttgConvert
  refine ⟨opensAs_plainWord 0x22 (fun a _ => .cvtgt a) fun _ => rfl,
    opensAs_plainWord 0x23 (fun a _ => .cvttg a) fun _ => rfl, fun a s => ?_⟩
  dsimp only
  rw [← toNat_imageSign, ← toNat_imageExp, ← toNat_imageFrac]
  refine ⟨fun h0 hnonzero hfree => exec_cvtgt_of_reserved (reservedG_iff.mpr ⟨h0, hnonzero⟩) hfree,
    fun h0 hsign hfrac => ?zero, fun h12 => ?underflow, fun h3 => ?normal,
    fun h => ends_cvttg (cvtTG_of_2046_le_exp h), fun h => ends_cvttg (cvtTG_of_exp_eq_zero h),
    fun h0 h2045 => ⟨_, ends_cvttg rfl, toNat_cvtTG_of_exp_le_2045 h0 h2045⟩⟩
  case zero =>
    have hvalid : ¬reservedG a = true := by rw [reservedG_iff]; omega
    exact ends_cvtgt hvalid (cvtGT_of_exp_eq_zero h0)
  case underflow =>
    have hne : (imageExp a).toNat ≠ 0 := by omega
    simp only [Bool.toNat_eq_one, Bool.decide_eq_true, BitVec.ofNat_toNat, BitVec.setWidth_eq]
    exact ⟨_, ends_cvtgt (not_reservedG_of_exp_ne_zero hne) (cvtGT_of_exp_lt_three hne (by omega)), rfl,
      fun u hu => gUnderflow_of_constant hu _ _ _⟩
  case normal =>
    exact ⟨_, ends_cvtgt (not_reservedG_of_exp_ne_zero (by omega)) rfl, toNat_cvtGT_of_three_le_exp h3⟩

end Sys2Proof
end

section
/-! Overflow-checked arithmetic: when a mathematical result leaves the signed range, by the bit tests of a sum and a difference
and by the upper bits of a wide product, and how a checked form ends, with the obligations on the six forms
(45_arith_trap.md R260 to R266). -/

namespace Sys2Proof.Machine

open Sys2Proof.Claims

/-! ## The signed range (R260) -/

theorem inSignedRange_eq_true_iff {n : Nat} {m : Int} :
    inSignedRange n m = true ↔ -2 ^ (n - 1) ≤ m ∧ m ≤ 2 ^ (n - 1) - 1 := by
  rw [inSignedRange, Bool.and_eq_true, decide_eq_true_iff, decide_eq_true_iff]

theorem inSignedRange_eq_false_iff {n : Nat} {m : Int} :
    inSignedRange n m = false ↔ m < -2 ^ (n - 1) ∨ 2 ^ (n - 1) - 1 < m := by
  rw [← Bool.not_eq_true, inSignedRange_eq_true_iff, not_and_or, not_le, not_le]

theorem inSignedRange_toInt {n : Nat} (x : BitVec n) : inSignedRange n x.toInt = true :=
  inSignedRange_eq_true_iff.mpr ⟨x.le_toInt, Int.le_sub_one_of_lt x.toInt_lt⟩

/-- An integer in the signed range is the value of its own bits. -/
theorem toInt_ofInt_of_inSignedRange {n : Nat} (hn : 0 < n) {m : Int} (h : inSignedRange n m = true) :
    (BitVec.ofInt n m).toInt = m := by
  obtain ⟨hle, hlt⟩ := inSignedRange_eq_true_iff.mp h
  exact BitVec.toInt_ofInt_eq_self hn hle (Int.lt_of_le_sub_one hlt)

/-! ## Sum and difference (R261, R262, R264, R265) -/

theorem saddOverflow_iff {n : Nat} {x y : BitVec n} :
    x.saddOverflow y = true ↔ inSignedRange n (x.toInt + y.toInt) = false := by
  rw [inSignedRange_eq_false_iff, Int.sub_one_lt_iff, or_comm, BitVec.saddOverflow, Bool.or_eq_true,
    decide_eq_true_iff, decide_eq_true_iff]

theorem ssubOverflow_iff {n : Nat} {x y : BitVec n} :
    x.ssubOverflow y = true ↔ inSignedRange n (x.toInt - y.toInt) = false := by
  rw [inSignedRange_eq_false_iff, Int.sub_one_lt_iff, or_comm, BitVec.ssubOverflow, Bool.or_eq_true,
    decide_eq_true_iff, decide_eq_true_iff]

/-- A sum leaves the signed range exactly when the operands have one sign and the wrapped sum the other. -/
theorem add_bitTest_iff {n : Nat} (x y : BitVec n) :
    (x.getLsbD (n - 1) = y.getLsbD (n - 1) ∧ (x + y).getLsbD (n - 1) ≠ x.getLsbD (n - 1)) ↔
      inSignedRange n (x.toInt + y.toInt) = false := by
  rw [← saddOverflow_iff, BitVec.saddOverflow_eq, Bool.and_eq_true, beq_iff_eq, Bool.not_eq_true', beq_eq_false_iff_ne]
  simp only [BitVec.msb_eq_getLsbD_last]

/-- A difference leaves the signed range exactly when the operands have different signs and the wrapped difference not the
first operand's. -/
theorem sub_bitTest_iff {n : Nat} (x y : BitVec n) :
    (x.getLsbD (n - 1) ≠ y.getLsbD (n - 1) ∧ (x - y).getLsbD (n - 1) ≠ x.getLsbD (n - 1)) ↔
      inSignedRange n (x.toInt - y.toInt) = false := by
  rw [← ssubOverflow_iff, BitVec.ssubOverflow_eq]
  simp only [BitVec.msb_eq_getLsbD_last]
  cases x.getLsbD (n - 1) <;> cases y.getLsbD (n - 1) <;> simp

theorem ofInt_sub {n : Nat} (k m : Int) : BitVec.ofInt n (k - m) = BitVec.ofInt n k - BitVec.ofInt n m := by
  rw [Int.sub_eq_add_neg, BitVec.ofInt_add, BitVec.ofInt_neg, BitVec.sub_eq_add_neg]

/-! ## The low half (R260) -/

theorem setWidth_ofInt {n k : Nat} (h : n ≤ k) (m : Int) : (BitVec.ofInt k m).setWidth n = BitVec.ofInt n m := by
  apply BitVec.eq_of_toInt_eq
  rw [← BitVec.signExtend_eq_setWidth_of_le _ h, BitVec.toInt_signExtend_eq_toInt_bmod_of_le _ h, BitVec.toInt_ofInt,
    BitVec.toInt_ofInt, Int.bmod_bmod_of_dvd (pow_dvd_pow 2 h)]

/-- `sext_n(m mod 2^64)` extends `m mod 2^n`. -/
theorem sext_ofInt {n : Nat} (h : n ≤ 64) (m : Int) :
    sext n (BitVec.ofInt 64 m) = (BitVec.ofInt n m).signExtend 64 := by
  rw [sext, setWidth_ofInt h]

/-- A word is the sign extension of its low `n` bits exactly when its value lies in their signed range. -/
theorem sext_eq_self_iff {n : Nat} (hn : 0 < n) (h : n ≤ 64) (v : Word) :
    sext n v = v ↔ inSignedRange n v.toInt = true := by
  constructor
  · intro hv
    rw [← hv, sext, BitVec.toInt_signExtend_of_le h]
    exact inSignedRange_toInt _
  · intro hv
    calc sext n v = (BitVec.ofInt n v.toInt).signExtend 64 := by rw [← sext_ofInt h, BitVec.ofInt_toInt]
      _ = BitVec.ofInt 64 v.toInt := by rw [BitVec.signExtend, toInt_ofInt_of_inSignedRange hn hv]
      _ = v := BitVec.ofInt_toInt

/-! ## The wide product (R263, R266) -/

theorem signExtend_mul_signExtend {n : Nat} (k : Nat) (x y : BitVec n) :
    x.signExtend k * y.signExtend k = BitVec.ofInt k (x.toInt * y.toInt) := (BitVec.ofInt_mul _ _).symm

/-- The product in twice the width is the mathematical one: no product of two signed numbers leaves that range. -/
theorem toInt_wideProduct {n : Nat} (hn : 0 < n) (x y : BitVec n) :
    (x.signExtend (n * 2) * y.signExtend (n * 2)).toInt = x.toInt * y.toInt := by
  have hpow : (2 : Int) ^ (n * 2 - 2) < 2 ^ (n * 2 - 1) := pow_lt_pow_right₀ (by decide) (by omega)
  rw [signExtend_mul_signExtend]
  exact BitVec.toInt_ofInt_eq_self (by omega) ((neg_le_neg hpow.le).trans BitVec.le_toInt_mul_toInt)
    (BitVec.toInt_mul_toInt_le.trans_lt hpow)

/-- Bits 127:63 are mixed exactly when the value leaves the signed 64-bit range (R266). -/
theorem upperBits_mixed_iff (p : BitVec 128) :
    (p.extractLsb' 63 65 ≠ 0#65 ∧ p.extractLsb' 63 65 ≠ BitVec.allOnes 65) ↔ inSignedRange 64 p.toInt = false := by
  have hupper : (p.extractLsb' 63 65).toNat = p.toNat / 2 ^ 63 := by
    rw [BitVec.extractLsb'_toNat, Nat.shiftRight_eq_div_pow, Nat.mod_eq_of_lt (by omega)]
  rw [inSignedRange_eq_false_iff, Ne, Ne, ← BitVec.toNat_inj, ← BitVec.toNat_inj, hupper, BitVec.toNat_ofNat,
    BitVec.toNat_allOnes, BitVec.toInt_eq_toNat_cond]
  omega

/-! ## How a checked form ends (R260) -/

section
variable {i : Instr} {m : Int} {v : Word} {s : State} {overflows : Prop}

/-- Inside the range a checked form answers its result, outside it raises ARITH with `ARITH_AUX_IOV`. -/
theorem outcomes_of_checked {n : Nat}
    (hexec : exec i s = if inSignedRange n m = true then answer v s else raiseOverflow s)
    (h : overflows ↔ inSignedRange n m = false) :
    (¬overflows → Ends i s (.value v) [] s) ∧
      (overflows → s.excCond = none → exec i s = .next (Raised (.generic .arith) s.cfg.arithAuxIov s)) := by
  refine ⟨fun hin => ?answers, fun hout hfree => ?raises⟩
  case answers =>
    rw [h, Bool.not_eq_false] at hin
    exact ends_of_exec_eq_answer (hexec.trans (if_pos hin))
  case raises =>
    have hrange : ¬inSignedRange n m = true := Bool.not_eq_true _ ▸ h.mp hout
    exact (hexec.trans (if_neg hrange)).trans (raise_eq_next_raised hfree _ _)

theorem outcomes_of_checked64 (hexec : exec i s = checked64 m s) (hv : BitVec.ofInt 64 m = v)
    (h : overflows ↔ inSignedRange 64 m = false) :
    (¬overflows → Ends i s (.value v) [] s) ∧
      (overflows → s.excCond = none → exec i s = .next (Raised (.generic .arith) s.cfg.arithAuxIov s)) :=
  outcomes_of_checked (hv ▸ hexec) h

theorem outcomes_of_checked32 (hexec : exec i s = checked32 m s) (hv : sext 32 (BitVec.ofInt 64 m) = v)
    (h : overflows ↔ inSignedRange 32 m = false) :
    (¬overflows → Ends i s (.value v) [] s) ∧
      (overflows → s.excCond = none → exec i s = .next (Raised (.generic .arith) s.cfg.arithAuxIov s)) :=
  outcomes_of_checked (hv ▸ hexec) h

end

end Sys2Proof.Machine

namespace Sys2Proof

open Sys2Proof.Machine Sys2Proof.Claims

/-! ## The obligations -/

/-- Settles O54, by the bit tests of a sum and a difference at width 64. -/
theorem quadAddSubOverflowByTheirBitTests : Obligations.QuadAddSubOverflowByTheirBitTests := by
  unfold Obligations.QuadAddSubOverflowByTheirBitTests
  refine ⟨opensAs_plainWord 0x2B (fun a b => .addqv a b) fun _ => rfl,
    opensAs_plainWord 0x2C (fun a b => .subqv a b) fun _ => rfl, fun a b s => ?_⟩
  have hadd := add_bitTest_iff a b
  have hsub := sub_bitTest_iff a b
  have hsum : BitVec.ofInt 64 (a.toInt + b.toInt) = a + b := by
    rw [BitVec.ofInt_add, BitVec.ofInt_toInt, BitVec.ofInt_toInt]
  have hdiff : BitVec.ofInt 64 (a.toInt - b.toInt) = a - b := by
    rw [ofInt_sub, BitVec.ofInt_toInt, BitVec.ofInt_toInt]
  obtain ⟨haddEnds, haddRaises⟩ := outcomes_of_checked64 (i := .addqv a b) (s := s) rfl hsum hadd
  obtain ⟨hsubEnds, hsubRaises⟩ := outcomes_of_checked64 (i := .subqv a b) (s := s) rfl hdiff hsub
  exact ⟨hadd.trans inSignedRange_eq_false_iff, hsub.trans inSignedRange_eq_false_iff,
    haddEnds, haddRaises, hsubEnds, hsubRaises⟩

/-- Settles O55: the 128-bit product is the mathematical one, and its bits 127:63 tell whether it fits. -/
theorem quadMultiplyOverflowByTheWideProduct : Obligations.QuadMultiplyOverflowByTheWideProduct := by
  unfold Obligations.QuadMultiplyOverflowByTheWideProduct
  refine ⟨opensAs_plainWord 0x2D (fun a b => .mulqv a b) fun _ => rfl, fun a b s => ?_⟩
  have hwide : (a.signExtend 128 * b.signExtend 128).toInt = a.toInt * b.toInt := toInt_wideProduct (by decide) a b
  have hmul := hwide ▸ upperBits_mixed_iff (a.signExtend 128 * b.signExtend 128)
  have hproduct : BitVec.ofInt 64 (a.toInt * b.toInt) = a * b := by
    rw [BitVec.ofInt_mul, BitVec.ofInt_toInt, BitVec.ofInt_toInt]
  exact ⟨hmul.trans inSignedRange_eq_false_iff, outcomes_of_checked64 rfl hproduct hmul⟩

/-- Settles O56, by the bit tests of a sum and a difference at width 32. -/
theorem longAddSubOverflowByTheirBitTests : Obligations.LongAddSubOverflowByTheirBitTests := by
  unfold Obligations.LongAddSubOverflowByTheirBitTests
  refine ⟨opensAs_plainWord 0x28 (fun a b => .addlv a b) fun _ => rfl,
    opensAs_plainWord 0x29 (fun a b => .sublv a b) fun _ => rfl, fun a b s => ?_⟩
  have hadd := add_bitTest_iff (a.setWidth 32) (b.setWidth 32)
  have hsub := sub_bitTest_iff (a.setWidth 32) (b.setWidth 32)
  simp only [BitVec.getLsbD_setWidth] at hadd hsub
  have hsum : sext 32 (BitVec.ofInt 64 (signed32 a + signed32 b)) = (a.setWidth 32 + b.setWidth 32).signExtend 64 := by
    rw [sext_ofInt (by decide), BitVec.ofInt_add, signed32, signed32, BitVec.ofInt_toInt, BitVec.ofInt_toInt]
  have hdiff : sext 32 (BitVec.ofInt 64 (signed32 a - signed32 b)) = (a.setWidth 32 - b.setWidth 32).signExtend 64 := by
    rw [sext_ofInt (by decide), ofInt_sub, signed32, signed32, BitVec.ofInt_toInt, BitVec.ofInt_toInt]
  obtain ⟨haddEnds, haddRaises⟩ := outcomes_of_checked32 (i := .addlv a b) (s := s) rfl hsum hadd
  obtain ⟨hsubEnds, hsubRaises⟩ := outcomes_of_checked32 (i := .sublv a b) (s := s) rfl hdiff hsub
  exact ⟨haddEnds, haddRaises, hsubEnds, hsubRaises⟩

/-- Settles O57: the 64-bit product of the low halves is the mathematical one, and it is the sign extension of its low half
exactly inside the signed 32-bit range. -/
theorem longMultiplyOverflowByTheWideProduct : Obligations.LongMultiplyOverflowByTheWideProduct := by
  unfold Obligations.LongMultiplyOverflowByTheWideProduct
  refine ⟨opensAs_plainWord 0x2A (fun a b => .mullv a b) fun _ => rfl, fun a b s => ?_⟩
  intro p overflows m
  have hwide : p.toInt = m := toInt_wideProduct (by decide) (a.setWidth 32) (b.setWidth 32)
  have hmul : overflows ↔ inSignedRange 32 m = false := by
    rw [← hwide, ← Bool.not_eq_true]
    exact not_congr (sext_eq_self_iff (by decide) (by decide) p)
  have hproduct : BitVec.ofInt 64 m = p := (signExtend_mul_signExtend 64 _ _).symm
  obtain ⟨hends, hraises⟩ := outcomes_of_checked32 (i := .mullv a b) (s := s) (m := m) rfl (congrArg (sext 32) hproduct) hmul
  refine ⟨hmul.trans inSignedRange_eq_false_iff, fun hfits => ?_, hraises⟩
  have hself : sext 32 p = p := not_not.mp hfits
  exact hself ▸ hends hfits

end Sys2Proof
end

section
/-! The register port: the command words that carry a register index, a general register read after a write by the five bits of
its index, and the obligations on RDGPR, WRGPR, RDPC and WRPC (46_regport.md R280 to R283). -/

namespace Sys2Proof

open Sys2Proof.Claims

/-! ## The words of a command of format X (R82) -/

/-- The index of a register stands in bits 20:16 of the word. -/
theorem word_registerIndex (opc : ByteField) (n : BitVec 5) :
    word opc (n.setWidth 8) 0 = word opc 0 0 + n.setWidth 32 <<< 16 := by
  have hindex := n.isLt
  have hopc := opc.isLt
  simp only [word, ← BitVec.toNat_inj, Machine.toNat_append_eq_add, BitVec.toNat_add, BitVec.toNat_shiftLeft,
    BitVec.toNat_setWidth, BitVec.ofNat_eq_ofNat, BitVec.toNat_ofNat, Nat.shiftLeft_eq]
  omega

/-- Every index of five bits is accepted and read back. -/
theorem formatX_setWidth (n : BitVec 5) (f : BitVec 5 → Instr) : formatX (n.setWidth 8) 0 f = .instr (f n) := by
  have hhigh : (n.setWidth 8).extractLsb' 5 3 = 0#3 := by revert n; decide
  have hindex : (n.setWidth 8).setWidth 5 = n := BitVec.setWidth_setWidth_of_le n (by decide)
  rw [formatX, if_pos ⟨hhigh, rfl⟩, hindex]

/-- An opcode of format X has one word per register, whatever the operand ports hold. -/
theorem opensAs_registerWord (opc : ByteField) (f : BitVec 5 → Word → Word → Instr)
    (hf : ∀ idx md c, decodeFields opc.toNat idx md c = formatX idx md fun n => f n c.a c.b) (n : BitVec 5) :
    OpensAs (word opc 0 0 + n.setWidth 32 <<< 16) (f n) := by
  intro a b insn valid
  rw [← word_registerIndex, decode_word, hf, formatX_setWidth]

end Sys2Proof

namespace Sys2Proof.Machine

open Sys2Proof.Claims

/-! ## A general register by the five bits of its index (R21) -/

theorem ngpr_of_wf {c : Config} (h : c.wf = true) : 32 ≤ c.ngpr := by
  simp only [Config.wf, Bool.and_eq_true, decide_eq_true_eq] at h
  obtain ⟨⟨⟨⟨⟨⟨⟨-, hngpr⟩, -⟩, -⟩, -⟩, -⟩, -⟩, -⟩ := h
  exact hngpr

/-- The register file of a sound state has a register for every index of five bits. -/
theorem State.Inv.toNat_lt_length_x {s : State} (h : s.Inv) (n : BitVec 5) : n.toNat < s.x.length :=
  h.x ▸ n.isLt.trans_le (ngpr_of_wf h.cfg)

theorem toNat_eq_31_iff (n : BitVec 5) : n.toNat = 31 ↔ n = 31 := BitVec.toNat_inj (y := 31)

theorem State.readX_toNat (s : State) (n : BitVec 5) :
    s.readX n.toNat = if n = 31 then 0 else s.x.getD n.toNat 0 :=
  if_congr (toNat_eq_31_iff n) rfl rfl

/-- A register after a write: register 31 stays zero, the one written holds the value, every other keeps its own. -/
theorem State.readX_writeX_toNat {s : State} (h : s.Inv) (m n : BitVec 5) (v : Word) :
    (s.writeX n.toNat v).readX m.toNat =
      if m = 31 then 0 else if m = n then v else s.x.getD m.toNat 0 := by
  by_cases hm : m = 31
  · rw [State.readX_toNat, if_pos hm, if_pos hm]
  rw [if_neg hm, State.readX, State.writeX_x]
  by_cases hmn : m = n
  · subst hmn
    rw [if_pos rfl, readReg_writeReg_self (h.toNat_lt_length_x m) (mt (toNat_eq_31_iff m).mp hm)]
  · rw [if_neg hmn, readReg_writeReg_other (mt BitVec.toNat_inj.mp hmn), ← State.readX, State.readX_toNat, if_neg hm]

/-- A write leaves every other position of the file alone; a write to register 31 leaves all of them (R21). -/
theorem getElem?_writeReg_of_ne {r n : Nat} (h : r ≠ n) (xs : List Word) (v : Word) :
    (writeReg xs n v)[r]? = xs[r]? := by
  unfold writeReg
  split
  · rfl
  · exact List.getElem?_set_ne h.symm

/-- RDGPR ends with the visible register on the state it found (R280). -/
theorem ends_rdgpr {n : BitVec 5} {s : State} {v : Word} (h : s.readX n.toNat = v) :
    Ends (.rdgpr n) s (.value v) [] s :=
  ends_of_exec_eq_answer (h ▸ rfl)

end Sys2Proof.Machine

namespace Sys2Proof

open Sys2Proof.Machine Sys2Proof.Claims

/-! ## The obligations -/

/-- Settles O58: WRGPR ends in the write of its register, which a sound state's register file has for every index. -/
theorem generalRegisterPortReadsWhatWasWritten : Obligations.GeneralRegisterPortReadsWhatWasWritten := by
  unfold Obligations.GeneralRegisterPortReadsWhatWasWritten
  refine ⟨fun n => ⟨opensAs_registerWord 0x30 (fun n _ _ => .rdgpr n) (fun _ _ _ => rfl) n,
      opensAs_registerWord 0x31 (fun n a _ => .wrgpr n a) (fun _ _ _ => rfl) n⟩,
    fun n v s hinv => ?_, fun n s => ends_rdgpr (s.readX_toNat n)⟩
  refine ⟨(s.writeX n.toNat v).withReply ⟨.done (.value 0), []⟩, rfl,
    fun m => ends_rdgpr (State.readX_writeX_toNat hinv m n v), ?zeroRegister,
    fun r hr => getElem?_writeReg_of_ne hr s.x v, rfl, rfl⟩
  case zeroRegister =>
    rintro rfl
    exact writeReg_zero_register s.x v

/-- Settles O59: RDPC answers on the state it found, WRPC on the state with the whole `pc` replaced. -/
theorem pcPortReadsAndWritesAllBits : Obligations.PcPortReadsAndWritesAllBits := by
  unfold Obligations.PcPortReadsAndWritesAllBits
  exact ⟨opensAs_plainWord 0x32 (fun _ _ => .rdpc) fun _ => rfl, opensAs_plainWord 0x33 (fun a _ => .wrpc a) fun _ => rfl,
    fun v s => ⟨ends_of_exec_eq_answer rfl, ends_of_exec_eq_answer rfl⟩⟩

end Sys2Proof
end

section
/-! The round trip of the command word: decoding an encoded command gives it back, and what decodes re-encodes to its own word,
format by format (30_encoding.md R81 to R87), with the obligations on the encoding. -/

namespace Sys2Proof

open Sys2Proof.Claims

/-! ## The ids that have no row of their own (10_state.md, section 2) -/

theorem rdctlOf_of_not_implemented {id : ByteField} (h : implementedId id = false) : rdctlOf id = .rdctlOther id := by
  unfold rdctlOf
  split
  case h_27 => rfl
  all_goals next hid => simp [implementedId, hid] at h

theorem wrctlOf_of_not_implemented {id : ByteField} (h : implementedId id = false) (v : Word) :
    wrctlOf id v = .wrctlOther id v := by
  unfold wrctlOf
  split
  case h_27 => rfl
  all_goals next hid => simp [implementedId, hid] at h

/-! ## Decoding what the encoder wrote -/

theorem decode_command (opc idx md : ByteField) (a b : Word) (insn : Option Word32) :
    decode (command (word opc idx md) a b insn) =
      decodeFields opc.toNat idx md (command (word opc idx md) a b insn) := decode_word opc idx md a b _ _

/-- A command of format S: the stream's code is read back (R82). -/
theorem decode_streamCommand {opc : ByteField} (f : Stream → Word → Word → Instr)
    (hf : ∀ idx md c, decodeFields opc.toNat idx md c = formatS idx md fun st => f st c.a c.b) (st : Stream) (a b : Word) :
    decode (command (word opc 0 (streamCode st)) a b none) = .instr (f st a b) := by
  obtain ⟨hi, hd⟩ := opensAs_streamWords opc f hf
  cases st with
  | i => exact hi a b 0 false
  | d => exact hd a b 0 false

/-- A command of format K: the code of the access kind is read back, and what stands on the ports is the rest (R82). -/
theorem decode_kindCommand {opc : ByteField} (f : Kind → Command → Instr)
    (hf : ∀ idx md c, decodeFields opc.toNat idx md c = formatK idx md fun k => f k c) (k : Kind) (a b : Word)
    (insn : Option Word32) :
    decode (command (word opc 0 (kindCode k)) a b insn) =
      .instr (f k (command (word opc 0 (kindCode k)) a b insn)) := by
  rw [decode_command, hf]
  cases k <;> rfl

/-- An offset that the port carries in the low 16 bits of `A` is accepted and read back (R83). -/
theorem formatG_offset (off : Offset) (aux : Word) : formatG 0 0 (off.setWidth 64) aux = .instr (.raiseV off aux) := by
  have hhigh : (off.setWidth 64).extractLsb' 16 48 = 0#48 := by
    ext j hj
    simp
  have hlow : (off.setWidth 64).setWidth 16 = off := BitVec.setWidth_setWidth_of_le off (by decide)
  simp only [formatG, hhigh, hlow, if_true, BitVec.toNat_ofNat, Nat.zero_mod, BitVec.ofNat_eq_ofNat]

/-- A 32-bit operand is read back from the low half of its port (R83). -/
theorem setWidth_setWidth_word32 (m : Word32) : (m.setWidth 64).setWidth 32 = m :=
  BitVec.setWidth_setWidth_of_le m (by decide)

theorem decode_encode {i : Instr} (h : WellFormed i = true) : decode (encode i) = .instr i := by
  cases i with
  | tblkup st va asn => exact decode_streamCommand .tblkup (fun _ _ _ => rfl) st va asn
  | tbins st va pte => exact decode_streamCommand .tbins (fun _ _ _ => rfl) st va pte
  | tbia st => exact decode_streamCommand (fun st _ _ => .tbia st) (fun _ _ _ => rfl) st 0 0
  | tbiap st => exact decode_streamCommand (fun st _ _ => .tbiap st) (fun _ _ _ => rfl) st 0 0
  | tbis st va => exact decode_streamCommand (fun st a _ => .tbis st a) (fun _ _ _ => rfl) st va 0
  | xlate k va => exact decode_kindCommand (fun k c => .xlate k c.a) (fun _ _ _ => rfl) k va 0 none
  | memx k va insn =>
    have hmemx := decode_kindCommand (opc := 0x09) (fun k c => .memx k c.a (if c.insnValid then some c.insn else none))
      (fun _ _ _ => rfl) k va 0 insn
    cases insn <;> exact hmemx
  | rdctlOther id =>
    have hid : implementedId id = false := by simpa [WellFormed] using h
    exact (decode_command _ _ _ _ _ _).trans (congrArg Decoded.instr (rdctlOf_of_not_implemented hid))
  | wrctlOther id v =>
    have hid : implementedId id = false := by simpa [WellFormed] using h
    exact (decode_command _ _ _ _ _ _).trans (congrArg Decoded.instr (wrctlOf_of_not_implemented hid v))
  | raiseV off aux => exact (decode_command _ _ _ _ _ _).trans (formatG_offset off aux)
  | cvtsf b => exact (decode_command _ _ _ _ _ _).trans (congrArg (Decoded.instr ∘ .cvtsf) (setWidth_setWidth_word32 b))
  | lds m => exact (decode_command _ _ _ _ _ _).trans (congrArg (Decoded.instr ∘ .lds) (setWidth_setWidth_word32 m))
  | rdgpr n => exact (decode_command _ _ _ _ _ _).trans (formatX_setWidth n fun n => .rdgpr n)
  | wrgpr n v => exact (decode_command _ _ _ _ _ _).trans (formatX_setWidth n fun n => .wrgpr n v)
  | _ => exact (decode_command _ _ _ _ _ _).trans rfl

/-! ## Re-encoding what the decoder read -/

/-- The command is well formed and its word has these fields. -/
def EncodesAs (opc idx md : ByteField) (i : Instr) : Prop := WellFormed i = true ∧ (encode i).w = word opc idx md

section
variable {opc idx md : ByteField} {i : Instr}

theorem formatN_encodesAs {j : Instr} (hj : EncodesAs opc 0 0 j) (h : formatN idx md j = .instr i) :
    EncodesAs opc idx md i := by
  unfold formatN at h
  split at h
  next hfields =>
    obtain ⟨rfl, rfl⟩ := hfields
    cases h
    exact hj
  next => cases h

theorem formatS_encodesAs {f : Stream → Instr} (hf : ∀ st, EncodesAs opc 0 (streamCode st) (f st))
    (h : formatS idx md f = .instr i) : EncodesAs opc idx md i := by
  unfold formatS at h
  split at h
  next hidx =>
    subst hidx
    split at h
    next hmd =>
      cases h
      exact BitVec.eq_of_toNat_eq (y := streamCode .i) hmd ▸ hf .i
    next hmd =>
      cases h
      exact BitVec.eq_of_toNat_eq (y := streamCode .d) hmd ▸ hf .d
    next => cases h
  next => cases h

theorem formatK_encodesAs {f : Kind → Instr} (hf : ∀ k, EncodesAs opc 0 (kindCode k) (f k))
    (h : formatK idx md f = .instr i) : EncodesAs opc idx md i := by
  unfold formatK at h
  split at h
  next hidx =>
    subst hidx
    split at h
    next hmd =>
      cases h
      exact BitVec.eq_of_toNat_eq (y := kindCode .read) hmd ▸ hf .read
    next hmd =>
      cases h
      exact BitVec.eq_of_toNat_eq (y := kindCode .write) hmd ▸ hf .write
    next hmd =>
      cases h
      exact BitVec.eq_of_toNat_eq (y := kindCode .execute) hmd ▸ hf .execute
    next => cases h
    next => cases h
  next => cases h

theorem formatR_encodesAs {j : Instr} (hj : EncodesAs opc idx 0 j) (h : formatR md j = .instr i) :
    EncodesAs opc idx md i := by
  unfold formatR at h
  split at h
  next hmd =>
    subst hmd
    cases h
    exact hj
  next => cases h

theorem formatX_encodesAs {f : BitVec 5 → Instr} (hf : ∀ n : BitVec 5, EncodesAs opc (n.setWidth 8) 0 (f n))
    (h : formatX idx md f = .instr i) : EncodesAs opc idx md i := by
  unfold formatX at h
  split at h
  next hfields =>
    obtain ⟨hhigh, rfl⟩ := hfields
    have hi : f (idx.setWidth 5) = i := Decoded.instr.inj h
    have hidx : (idx.setWidth 5).setWidth 8 = idx := by
      revert hhigh
      clear * -
      revert idx
      decide
    have hn := hf (idx.setWidth 5)
    rw [hidx] at hn
    exact hi ▸ hn
  next => cases h

theorem formatG_encodesAs {a aux : Word} (h : formatG idx md a aux = .instr i) : EncodesAs 0x18 idx md i := by
  unfold formatG at h
  split at h
  next hmd =>
    obtain rfl : md = 1 := BitVec.eq_of_toNat_eq hmd
    split at h
    case h_5 => cases h
    all_goals
      next hidx =>
        cases h
        exact ⟨rfl, congrArg (word 0x18 · 1) (BitVec.eq_of_toNat_eq hidx).symm⟩
  next hmd =>
    obtain rfl : md = 0 := BitVec.eq_of_toNat_eq hmd
    split at h
    next hidx =>
      subst hidx
      split at h
      next => cases h; exact ⟨rfl, rfl⟩
      next => cases h
    next => cases h
  next => cases h

end

theorem not_implemented_of_ne {id : ByteField} (h14 : 0x14 < id.toNat) (h18 : id.toNat < 0x18 ∨ 0x1C < id.toNat) :
    implementedId id = false := by
  simp only [implementedId, Bool.or_eq_false_iff, Bool.and_eq_false_iff, decide_eq_false_iff_not]
  omega

theorem rdctlOf_encodesAs (id : ByteField) : EncodesAs 0x10 id 0 (rdctlOf id) := by
  unfold rdctlOf
  split
  case h_27 =>
    simp only [imp_false] at *
    have hid : implementedId id = false := not_implemented_of_ne (by omega) (by omega)
    exact ⟨by rw [WellFormed, hid, Bool.not_false], rfl⟩
  all_goals next hid => exact ⟨rfl, congrArg (word 0x10 · 0) (BitVec.eq_of_toNat_eq hid).symm⟩

theorem wrctlOf_encodesAs (id : ByteField) (v : Word) : EncodesAs 0x11 id 0 (wrctlOf id v) := by
  unfold wrctlOf
  split
  case h_27 =>
    simp only [imp_false] at *
    have hid : implementedId id = false := not_implemented_of_ne (by omega) (by omega)
    exact ⟨by rw [WellFormed, hid, Bool.not_false], rfl⟩
  all_goals next hid => exact ⟨rfl, congrArg (word 0x11 · 0) (BitVec.eq_of_toNat_eq hid).symm⟩

/-- A byte is its number. -/
theorem byteField_eq_ofNat {v : ByteField} {n : Nat} (h : v.toNat = n) : v = BitVec.ofNat 8 n := by
  rw [← h, BitVec.ofNat_toNat, BitVec.setWidth_eq]

theorem decodeFields_encodesAs {opc idx md : ByteField} {c : Command} {i : Instr}
    (h : decodeFields opc.toNat idx md c = .instr i) : EncodesAs opc idx md i := by
  unfold decodeFields at h
  split at h
  case h_34 => cases h
  all_goals rename_i hopc; obtain rfl := byteField_eq_ofNat hopc
  case h_1 | h_2 | h_3 | h_4 | h_5 => exact formatS_encodesAs (fun _ => ⟨rfl, rfl⟩) h
  case h_6 | h_7 => exact formatK_encodesAs (fun _ => ⟨rfl, rfl⟩) h
  case h_8 => exact formatR_encodesAs (rdctlOf_encodesAs idx) h
  case h_9 => exact formatR_encodesAs (wrctlOf_encodesAs idx c.a) h
  case h_10 => exact formatG_encodesAs h
  case h_30 | h_31 => exact formatX_encodesAs (fun _ => ⟨rfl, rfl⟩) h
  all_goals exact formatN_encodesAs ⟨rfl, rfl⟩ h

/-- A word is its four fields. -/
theorem word_fields {w : Word32} (hzero : zeroField w = 0#8) : word (opcField w) (idxField w) (modField w) = w := by
  have hopc := toNat_opcField w
  have hidx := toNat_idxField w
  have hmd := toNat_modField w
  have hz := (zeroField_eq_zero_iff w).mp hzero
  rw [← BitVec.toNat_inj, word, Machine.toNat_append_eq_add, Machine.toNat_append_eq_add, Machine.toNat_append_eq_add,
    hopc, hidx, hmd, BitVec.toNat_ofNat]
  omega

theorem encodesAs_of_decode {c : Command} {i : Instr} (h : decode c = .instr i) :
    WellFormed i = true ∧ (encode i).w = c.w := by
  unfold decode at h
  split at h
  next hzero =>
    obtain ⟨hwf, hword⟩ := decodeFields_encodesAs h
    exact ⟨hwf, hword.trans (word_fields hzero)⟩
  next => cases h

/-! ## The obligations -/

/-- Settles O3, command by command: every field the encoder writes is read back. -/
theorem decodingAnEncodedCommandGivesItBack : Obligations.DecodingAnEncodedCommandGivesItBack := by
  unfold Obligations.DecodingAnEncodedCommandGivesItBack
  exact fun _ => decode_encode

/-- Settles O4, format by format: what a format accepts is what the encoder writes. -/
theorem decodedCommandsReencodeToTheirWord : Obligations.DecodedCommandsReencodeToTheirWord := by
  unfold Obligations.DecodedCommandsReencodeToTheirWord
  exact fun _ _ => encodesAs_of_decode

end Sys2Proof
end

section
/-! The swap of the shadow bank under the invariant: it exchanges exactly the eight pairs and is its own inverse (10_state.md
R23), with the obligation on it. -/

namespace Sys2Proof.Machine

/-! ## What a well-formed configuration and a sound state give the swap -/

/-- The shadow set of a well-formed configuration: eight distinct registers other than 31. -/
theorem shadowSet_of_wf {c : Config} (h : c.wf = true) :
    c.shadowSet.length = 8 ∧ c.shadowSet.Nodup ∧ ∀ r ∈ c.shadowSet, r < c.ngpr ∧ r ≠ 31 := by
  simp only [Config.wf, Bool.and_eq_true, decide_eq_true_eq, List.all_eq_true] at h
  obtain ⟨⟨⟨⟨⟨⟨-, hlength⟩, hnodup⟩, hregs⟩, -⟩, -⟩, -⟩ := h
  exact ⟨hlength, hnodup, hregs⟩

/-- The invariant reads only the sizes of the banks. -/
theorem State.Inv.setBanks {s : State} (h : s.Inv) {banks : List Word × List Word} (hx : banks.1.length = s.x.length)
    (hsh : banks.2.length = s.sh.length) : (s.setBanks banks).Inv :=
  { h with x := hx.trans h.x, sh := hsh.trans h.sh }

theorem State.Inv.swapShadow {s : State} (h : s.Inv) : s.swapShadow.Inv := by
  obtain ⟨hx, hsh⟩ := length_swapBanks s.cfg.shadowSet 0 (s.x, s.sh)
  exact h.setBanks hx hsh

/-! ## The exchange (R23) -/

/-- The `j`-th pair is exchanged. -/
theorem State.Inv.swapShadow_exchanges {s : State} (h : s.Inv) {j : Nat} (hj : j < 8) :
    s.swapShadow.readX (s.cfg.shadowSet.getD j 0) = s.sh.getD j 0 ∧
      s.swapShadow.sh.getD j 0 = s.readX (s.cfg.shadowSet.getD j 0) := by
  obtain ⟨hlength, hnodup, hregs⟩ := shadowSet_of_wf h.cfg
  have hexchange := swapBanks_exchanges s.cfg.shadowSet 0 s.x s.sh hnodup (h.x.symm ▸ hregs)
    (by rw [hlength, h.sh]) j (hlength.symm ▸ hj)
  rwa [Nat.zero_add] at hexchange

theorem State.readX_swapShadow_of_not_mem {s : State} {n : Nat} (h : n ∉ s.cfg.shadowSet) :
    s.swapShadow.readX n = s.readX n := readReg_swapBanks_of_not_mem h 0 (s.x, s.sh)

/-! ## The inverse -/

/-- A position of the register file outside the shadow set is not touched by the swap, register 31's included. -/
theorem getElem?_swapBanks_of_not_mem {rs : List Nat} {n : Nat} (h : n ∉ rs) (j : Nat) (banks : List Word × List Word) :
    (swapBanks rs j banks).1[n]? = banks.1[n]? := by
  induction rs generalizing j banks with
  | nil => rfl
  | cons r rs ih =>
    rw [List.mem_cons, not_or] at h
    obtain ⟨hr, hrs⟩ := h
    rw [swapBanks, ih hrs, getElem?_writeReg_of_ne hr]

/-- A register of the file other than 31 holds what a read of it gives. -/
theorem getElem?_eq_readReg {xs : List Word} {n : Nat} (hn : n < xs.length) (h31 : n ≠ 31) :
    xs[n]? = some (readReg xs n) := by
  simp [readReg, h31, hn]

/-- Two banks of one size that agree at every position below it are equal. -/
theorem list_eq_of_getD {xs ys : List Word} {n : Nat} (hx : xs.length = n) (hy : ys.length = n)
    (h : ∀ j < n, xs.getD j 0 = ys.getD j 0) : xs = ys := by
  refine List.ext_getElem (hx.trans hy.symm) fun j hjx hjy => ?_
  have hj := h j (hx ▸ hjx)
  rwa [List.getD_eq_getElem _ _ hjx, List.getD_eq_getElem _ _ hjy] at hj

theorem State.Inv.swapShadow_swapShadow {s : State} (h : s.Inv) : s.swapShadow.swapShadow = s := by
  have hback := fun {j : Nat} (hj : j < 8) => h.swapShadow.swapShadow_exchanges hj
  obtain ⟨hlength, -, hregs⟩ := shadowSet_of_wf h.cfg
  have hsh : s.swapShadow.swapShadow.sh = s.sh :=
    list_eq_of_getD h.swapShadow.swapShadow.sh h.sh fun j hj =>
      (hback hj).2.trans (h.swapShadow_exchanges hj).1
  have hx : s.swapShadow.swapShadow.x = s.x := by
    refine List.ext_getElem? fun n => ?_
    by_cases hn : n ∈ s.cfg.shadowSet
    · obtain ⟨j, hj, rfl⟩ := List.getElem_of_mem hn
      obtain ⟨hlt, h31⟩ := hregs _ hn
      have hread := (hback (hlength ▸ hj)).1.trans (h.swapShadow_exchanges (hlength ▸ hj)).2
      rw [State.swapShadow_cfg, List.getD_eq_getElem _ _ hj] at hread
      rw [getElem?_eq_readReg (h.swapShadow.swapShadow.x.symm ▸ hlt) h31, getElem?_eq_readReg (h.x.symm ▸ hlt) h31]
      exact congrArg some hread
    · exact (getElem?_swapBanks_of_not_mem hn 0 _).trans (getElem?_swapBanks_of_not_mem hn 0 _)
  calc s.swapShadow.swapShadow
      = { s with x := s.swapShadow.swapShadow.x, sh := s.swapShadow.swapShadow.sh } := rfl
    _ = s := by rw [hx, hsh]

end Sys2Proof.Machine

namespace Sys2Proof

open Sys2Proof.Machine

/-- Settles O36: the pairs are exchanged one by one, the registers are distinct, and nothing else is touched. -/
theorem swapExchangesExactlyTheEightPairs : Obligations.SwapExchangesExactlyTheEightPairs := by
  unfold Obligations.SwapExchangesExactlyTheEightPairs
  exact fun s hinv => ⟨fun _ hj => hinv.swapShadow_exchanges hj, fun _ hn => State.readX_swapShadow_of_not_mem hn, rfl,
    hinv.swapShadow_swapShadow⟩

end Sys2Proof
end

section
/-! What a command can leave, said once: the writes of every command on the fields of the state, as a relation whose cases are
the kinds of writes. Statements over every command go by its cases. -/

namespace Sys2Proof.Machine

open Sys2Proof.Claims

/-! ## The cases -/

/-- The commands that act on a translation cache but WRCTL ASN (R109, R171 to R174). -/
inductive WritesCache : Stream → Instr → Prop
  | tbins {st : Stream} (va pte : Word) : WritesCache st (.tbins st va pte)
  | tbia {st : Stream} : WritesCache st (.tbia st)
  | tbiap {st : Stream} : WritesCache st (.tbiap st)
  | tbis {st : Stream} (va : Word) : WritesCache st (.tbis st va)
  | itbPte (v : Word) : WritesCache .i (.wrctlItbPte v)
  | itbIa (v : Word) : WritesCache .i (.wrctlItbIa v)
  | itbIap (v : Word) : WritesCache .i (.wrctlItbIap v)
  | itbIs (v : Word) : WritesCache .i (.wrctlItbIs v)
  | dtbPte (v : Word) : WritesCache .d (.wrctlDtbPte v)
  | dtbIa (v : Word) : WritesCache .d (.wrctlDtbIa v)
  | dtbIap (v : Word) : WritesCache .d (.wrctlDtbIap v)
  | dtbIs (v : Word) : WritesCache .d (.wrctlDtbIs v)

/-- What these commands make of the cache (R104 to R107). -/
inductive CacheWrite (s : State) (st : Stream) : Tlb → Prop
  | insert (va pte : Word) : CacheWrite s st ((s.tlb st).insert (newSlot s.cfg (s.vaWidth st) va pte s.asn))
  | flushAll : CacheWrite s st (s.tlb st).flushAll
  | flushNonGlobal : CacheWrite s st (s.tlb st).flushNonGlobal
  | flushPage (va : Word) : CacheWrite s st ((s.tlb st).flushPage s.cfg va)

/-- The commands that may raise ARITH (R201, R260). -/
def RaisesArith (i : Instr) : Prop := (∃ aux, i = .raiseGArith aux) ∨ IsChecked i

/-- What a command may leave but for its reply. Where an operation decides between several updates, the fields it may write are
spelled out, so that every other field is the state's own by definition. -/
inductive Leaves (s : State) : Instr → State → Prop
  | same (i : Instr) : Leaves s i s
  | cache {i : Instr} {st : Stream} {t : Tlb} (hi : WritesCache st i) (ht : CacheWrite s st t) : Leaves s i (s.setTlb st t)
  | asn (v : Word) : Leaves s (.wrctlAsn v)
      { s with
        asn := asnOf s.cfg v, itb := (s.changeAsn (asnOf s.cfg v)).itb, dtb := (s.changeAsn (asnOf s.cfg v)).dtb }
  | cm (v : Word) : Leaves s (.wrctlCm v) { s with cm := v.setWidth 2 }
  | ier (v : Word) : Leaves s (.wrctlIer v) { s with ier := v &&& ierMask s.cfg }
  | sirr (v : Word) : Leaves s (.wrctlSirr v) (s.setSirr (v &&& s.cfg.swintMask))
  | ivptb (v : Word) : Leaves s (.wrctlIvptb v) { s with ivptb := v }
  | dvptb (v : Word) : Leaves s (.wrctlDvptb v) { s with dvptb := v }
  | excAddr (v : Word) : Leaves s (.wrctlExcAddr v) { s with excAddr := v }
  | excSum (v : Word) : Leaves s (.wrctlExcSum v) { s with excSum := v }
  | palBase (v : Word) : Leaves s (.wrctlPalBase v) { s with palBase := v }
  | ictl (v : Word) : Leaves s (.wrctlIctl v)
      { s with
        ictl := v.setWidth 6, x := (s.changeIctl (v.setWidth 6)).x, sh := (s.changeIctl (v.setWidth 6)).sh }
  | dctl (v : Word) : Leaves s (.wrctlDctl v) { s with dctl := v.setWidth 6 &&& 0x3C#6 }
  | itbTag (v : Word) : Leaves s (.wrctlItbTag v) { s with itbTag := v }
  | dtbTag (v : Word) : Leaves s (.wrctlDtbTag v) { s with dtbTag := v }
  | raised {i : Instr} (c : Condition) (aux : Word) (hi : IsRaiser i) (harith : c = .generic .arith → RaisesArith i) :
      Leaves s i (s.withCondition c aux)
  | dataFault {k : Kind} (hk : k ≠ .execute) (va : Word) (insn : Word32) (status : BitVec 10) (sum aux : Word)
      (c : Condition) : Leaves s (.memx k va (some insn))
      { s with faultVa := va, mmStat := status, excSum := sum, excCond := some c, excAux := aux }
  | dispatched (off : Offset) : Leaves s .dispatch
      { s with
        excAddr := s.pc ||| bitWord s.pal, excCond := none, excAux := 0, pc := s.entryPoint off, pal := true,
        xlateCtx := .pal, x := (s.takeCondition off).x, sh := (s.takeCondition off).sh }
  | redirected (target : Word) (hpal : s.pal = true) : Leaves s (.palret target) (s.redirect target)
  | returned (target : Word) (hpal : s.pal = true) (hr : ¬(s.isum ≠ 0#64 ∧ target.getLsbD 0 = false)) :
      Leaves s (.palret target)
        { s with
          pc := target &&& ~~~3#64, pal := target.getLsbD 0, xlateCtx := if target.getLsbD 0 then .pal else .normal,
          x := (s.returnTo target).x, sh := (s.returnTo target).sh }
  | delivered (lines : Word) : Leaves s (.irq lines) (s.deliver lines)
  | intrFlag {i : Instr} (b : Bool) (hi : i = .rs ∨ i = .rc) : Leaves s i { s with intrFlag := b }
  | wrgpr (n : BitVec 5) (v : Word) : Leaves s (.wrgpr n v) (s.writeX n.toNat v)
  | wrpc (v : Word) : Leaves s (.wrpc v) { s with pc := v }

/-! ## Operations that decide between several updates, on the fields they may write -/

theorem State.changeAsn_eq (n : Word) (s : State) :
    s.changeAsn n = { s with asn := n, itb := (s.changeAsn n).itb, dtb := (s.changeAsn n).dtb } := by
  unfold State.changeAsn
  split <;> rfl

theorem State.changeIctl_eq (n : BitVec 6) (s : State) :
    s.changeIctl n = { s with ictl := n, x := (s.changeIctl n).x, sh := (s.changeIctl n).sh } := by
  unfold State.changeIctl
  split <;> rfl

theorem State.takeCondition_eq (off : Offset) (s : State) :
    s.takeCondition off =
      { s with
        excAddr := s.pc ||| bitWord s.pal, excCond := none, excAux := 0, pc := s.entryPoint off, pal := true,
        xlateCtx := .pal, x := (s.takeCondition off).x, sh := (s.takeCondition off).sh } := by
  unfold State.takeCondition State.linkCall State.swapOnEntry
  split <;> split <;> rfl

theorem State.returnTo_eq (target : Word) (s : State) :
    s.returnTo target =
      { s with
        pc := target &&& ~~~3#64, pal := target.getLsbD 0, xlateCtx := if target.getLsbD 0 then .pal else .normal,
        x := (s.returnTo target).x, sh := (s.returnTo target).sh } := by
  unfold State.returnTo
  split <;> rfl

theorem leaves_changeAsn (s : State) (v : Word) : Leaves s (.wrctlAsn v) (s.changeAsn (asnOf s.cfg v)) := by
  rw [State.changeAsn_eq]
  exact .asn v

theorem leaves_changeIctl (s : State) (v : Word) : Leaves s (.wrctlIctl v) (s.changeIctl (v.setWidth 6)) := by
  rw [State.changeIctl_eq]
  exact .ictl v

theorem leaves_takeCondition (s : State) (off : Offset) : Leaves s .dispatch (s.takeCondition off) := by
  rw [State.takeCondition_eq]
  exact .dispatched off

theorem leaves_returnTo {s : State} {target : Word} (hpal : s.pal = true)
    (hr : ¬(s.isum ≠ 0#64 ∧ target.getLsbD 0 = false)) : Leaves s (.palret target) (s.returnTo target) := by
  rw [State.returnTo_eq]
  exact .returned target hpal hr

/-! ## Every command leaves one of the cases -/

/-- The answer of a command, if it is a next state, is one of the cases with a reply. -/
def Step.Within (o : Step) (s : State) (i : Instr) : Prop :=
  ∀ t, o = .next t → ∃ u r, Leaves s i u ∧ t = u.withReply r

section
variable {i : Instr} {s u : State}

theorem finish_within (h : Leaves s i u) (r : Result) (ev : List Event) : (finish r ev u).Within s i :=
  fun _ ht => ⟨u, _, h, finish_eq_next.mp ht⟩

theorem raise_within {c : Condition} {aux : Word} (h : Leaves s i (u.withCondition c aux)) :
    (raise c aux u).Within s i :=
  fun _ ht => ⟨_, _, h, (raise_eq_next.mp ht).2⟩

/-- The commands that raise place a condition on the state they found. -/
theorem raiser_within {c : Condition} {aux : Word} (hi : IsRaiser i) (harith : c = .generic .arith → RaisesArith i) :
    (raise c aux s).Within s i := raise_within (.raised c aux hi harith)

theorem ite_within {p : Prop} [Decidable p] {o o' : Step} (h : o.Within s i) (h' : o'.Within s i) :
    (if p then o else o').Within s i := by
  split <;> assumption

theorem execMemx_within (k : Kind) (va : Word) (insn : Option Word32) (s : State) :
    (execMemx k va insn s).Within s (.memx k va insn) := by
  intro t ht
  obtain ⟨pa, cap, -, rfl⟩ | ⟨r, -, -, hraise⟩ | ⟨r, w, -, hk, rfl, hraise⟩ := execMemx_eq_next.mp ht
  · exact ⟨s, _, .same _, rfl⟩
  · exact raiser_within (c := .vectored _) (.inr (.inl ⟨k, va, insn, rfl⟩)) nofun t hraise
  · exact raise_within (.dataFault hk va w _ _ _ _) t hraise

theorem dispatchCondition_within (s : State) : (dispatchCondition s).Within s .dispatch := by
  intro t ht
  obtain ⟨c, -, rfl⟩ := dispatchCondition_eq_next.mp ht
  exact ⟨_, _, leaves_takeCondition s _, rfl⟩

theorem returnFromPal_within (target : Word) (s : State) : (returnFromPal target s).Within s (.palret target) := by
  intro t ht
  obtain ⟨hpal, ⟨-, -, rfl⟩ | ⟨hr, rfl⟩⟩ := returnFromPal_eq_next.mp ht
  · exact ⟨_, _, .redirected target hpal, rfl⟩
  · exact ⟨_, _, leaves_returnTo hpal hr, rfl⟩

/-- A checked form answers a result or raises ARITH (R260). -/
theorem checked_within {p : Prop} [Decidable p] {v : Word} (hi : IsChecked i) :
    (if p then answer v s else raiseOverflow s).Within s i :=
  ite_within (finish_within (.same i) _ _) (raiser_within (.inr (.inr (.inr hi))) fun _ => .inr hi)

end

theorem exec_within (i : Instr) (s : State) : Step.Within (exec i s) s i := by
  cases i with
  | tbins st va pte => exact finish_within (.cache (.tbins va pte) (.insert va pte)) _ _
  | tbia st => exact finish_within (.cache .tbia .flushAll) _ _
  | tbiap st => exact finish_within (.cache .tbiap .flushNonGlobal) _ _
  | tbis st va => exact finish_within (.cache (.tbis va) (.flushPage va)) _ _
  | wrctlItbPte v => exact finish_within (.cache (.itbPte v) (.insert s.itbTag v)) _ _
  | wrctlItbIa v => exact finish_within (.cache (.itbIa v) .flushAll) _ _
  | wrctlItbIap v => exact finish_within (.cache (.itbIap v) .flushNonGlobal) _ _
  | wrctlItbIs v => exact finish_within (.cache (.itbIs v) (.flushPage v)) _ _
  | wrctlDtbPte v => exact finish_within (.cache (.dtbPte v) (.insert s.dtbTag v)) _ _
  | wrctlDtbIa v => exact finish_within (.cache (.dtbIa v) .flushAll) _ _
  | wrctlDtbIap v => exact finish_within (.cache (.dtbIap v) .flushNonGlobal) _ _
  | wrctlDtbIs v => exact finish_within (.cache (.dtbIs v) (.flushPage v)) _ _
  | memx k va insn => exact execMemx_within k va insn s
  | wrctlAsn v => exact finish_within (leaves_changeAsn s v) _ _
  | wrctlCm v => exact finish_within (.cm v) _ _
  | wrctlIer v => exact finish_within (.ier v) _ _
  | wrctlSirr v => exact finish_within (.sirr v) _ _
  | wrctlIvptb v => exact finish_within (.ivptb v) _ _
  | wrctlDvptb v => exact finish_within (.dvptb v) _ _
  | wrctlExcAddr v => exact finish_within (.excAddr v) _ _
  | wrctlExcSum v => exact finish_within (.excSum v) _ _
  | wrctlPalBase v => exact finish_within (.palBase v) _ _
  | wrctlIctl v => exact finish_within (leaves_changeIctl s v) _ _
  | wrctlDctl v => exact finish_within (.dctl v) _ _
  | wrctlItbTag v => exact finish_within (.itbTag v) _ _
  | wrctlDtbTag v => exact finish_within (.dtbTag v) _ _
  | raiseGOpcdec aux => exact raiser_within (.inl ⟨aux, .inl rfl⟩) nofun
  | raiseGArith aux => exact raiser_within (.inl ⟨aux, .inr (.inl rfl)⟩) fun _ => .inl ⟨aux, rfl⟩
  | raiseGFen aux => exact raiser_within (.inl ⟨aux, .inr (.inr (.inl rfl))⟩) nofun
  | raiseGInterrupt aux => exact raiser_within (.inl ⟨aux, .inr (.inr (.inr (.inl rfl)))⟩) nofun
  | raiseV off aux => exact raiser_within (.inl ⟨aux, .inr (.inr (.inr (.inr ⟨off, rfl⟩)))⟩) nofun
  | dispatch => exact dispatchCondition_within s
  | palret target => exact returnFromPal_within target s
  | irq lines => exact finish_within (.delivered lines) _ _
  | rs => exact finish_within (.intrFlag true (.inl rfl)) _ _
  | rc => exact finish_within (.intrFlag false (.inr rfl)) _ _
  | cvtfs a =>
    exact ite_within (raiser_within (.inr (.inr (.inl ⟨a, .inl rfl⟩))) nofun) (finish_within (.same _) _ _)
  | cvtgt a =>
    exact ite_within (raiser_within (.inr (.inr (.inl ⟨a, .inr rfl⟩))) nofun) (finish_within (.same _) _ _)
  | addlv a b => exact checked_within ⟨a, b, .inl rfl⟩
  | sublv a b => exact checked_within ⟨a, b, .inr (.inl rfl)⟩
  | mullv a b => exact checked_within ⟨a, b, .inr (.inr (.inl rfl))⟩
  | addqv a b => exact checked_within ⟨a, b, .inr (.inr (.inr (.inl rfl)))⟩
  | subqv a b => exact checked_within ⟨a, b, .inr (.inr (.inr (.inr (.inl rfl))))⟩
  | mulqv a b => exact checked_within ⟨a, b, .inr (.inr (.inr (.inr (.inr rfl))))⟩
  | wrgpr n v => exact finish_within (.wrgpr n v) _ _
  | wrpc v => exact finish_within (.wrpc v) _ _
  | _ => exact finish_within (.same _) _ _

/-- A command that answers a next state leaves one of the cases, with its reply. -/
theorem exec_leaves {i : Instr} {s t : State} (h : exec i s = .next t) : ∃ u r, Leaves s i u ∧ t = u.withReply r :=
  exec_within i s t h

end Sys2Proof.Machine
end

section
/-! The invariant of the state (10_state.md R20 to R42): the block right after reset meets it, and every case of what a command
can leave keeps it, with the obligations on both. -/

namespace Sys2Proof.Machine

/-! ## Masks that share no bit -/

/-- What lies inside one mask lies inside a mask that contains it. -/
theorem and_not_or_eq_zero {v m : Word} (h : v &&& ~~~m = 0#64) (n : Word) : v &&& ~~~(m ||| n) = 0#64 := by
  rw [BitVec.not_or, ← BitVec.and_assoc, h, BitVec.zero_and]

/-- What lies inside a mask has no bit of a mask that shares none with it. -/
theorem and_eq_zero_of_disjoint {v m n : Word} (h : v &&& ~~~m = 0#64) (hdisjoint : m &&& n = 0#64) : v &&& n = 0#64 := by
  rw [(and_compl_eq_zero_iff v m).mp h, BitVec.and_assoc, hdisjoint, BitVec.and_zero]

/-- Replacing the field of a mask by bits inside it leaves the bits of every mask that shares none with it. -/
theorem replaceField_and_of_disjoint {v w m n : Word} (hw : w &&& ~~~m = 0#64) (hdisjoint : m &&& n = 0#64) :
    (v &&& ~~~m ||| w) &&& n = v &&& n := by
  have hn : n = n &&& ~~~m := (and_compl_eq_zero_iff n (~~~m)).mp (by rw [BitVec.not_not, BitVec.and_comm, hdisjoint])
  have hkeeps : v &&& ~~~m &&& n = v &&& n := by rw [BitVec.and_assoc, BitVec.and_comm (~~~m), ← hn]
  calc (v &&& ~~~m ||| w) &&& n = (v &&& ~~~m &&& n) ||| (w &&& n) := by
        ext i hi
        simp [Bool.and_or_distrib_right]
    _ = v &&& n := by rw [hkeeps, and_eq_zero_of_disjoint hw hdisjoint, BitVec.or_zero]

/-- Replacing the field of a mask by bits inside it makes the field those bits. -/
theorem replaceField_and_self {v w m : Word} (hw : w &&& ~~~m = 0#64) : (v &&& ~~~m ||| w) &&& m = w := by
  calc (v &&& ~~~m ||| w) &&& m = w &&& m := by
        ext i hi
        cases hm : m[i] <;> simp [hm]
    _ = w := ((and_compl_eq_zero_iff w m).mp hw).symm

/-- Replacing the field of a mask by bits inside it stays inside every mask that holds both. -/
theorem replaceField_and_not_eq_zero {v w m n : Word} (hv : v &&& ~~~n = 0#64) (hw : w &&& ~~~n = 0#64) :
    (v &&& ~~~m ||| w) &&& ~~~n = 0#64 := by
  calc (v &&& ~~~m ||| w) &&& ~~~n = ((v &&& ~~~n) &&& ~~~m) ||| (w &&& ~~~n) := by
        ext i hi
        simp [Bool.and_or_distrib_right, Bool.and_right_comm]
    _ = 0#64 := by rw [hv, hw, BitVec.zero_and, BitVec.or_zero]

theorem and_mask_and_not (v m : Word) : v &&& m &&& ~~~m = 0#64 := by
  rw [BitVec.and_assoc, BitVec.and_not_self]
  exact BitVec.and_zero

/-! ## The fields of IPEND (R29, R30) -/

/-- The hardware and the software field of IPEND share no bit (R30). -/
theorem hwintMask_and_swintMask_of_wf {c : Config} (h : c.wf = true) : hwintMask c &&& c.swintMask = 0#64 := by
  simp only [Config.wf, Bool.and_eq_true, decide_eq_true_eq] at h
  obtain ⟨-, hdisjoint⟩ := h
  exact hdisjoint

/-- The lines lie inside the hardware field (R210). -/
theorem irqLines_and_not_hwintMask (c : Config) (a : Word) : irqLines c a &&& ~~~(hwintMask c) = 0#64 := by
  rw [and_compl_eq_zero_iff]
  refine BitVec.eq_of_getLsbD_eq fun i hi => ?_
  rw [BitVec.getLsbD_and, getLsbD_irqLines c a hi, getLsbD_hwintMask c hi]
  cases decide (c.hwintShift ≤ i ∧ i < c.hwintShift + c.hwintCount) <;> simp

theorem and_not_ierMask_of_hwint {c : Config} {v : Word} (h : v &&& ~~~(hwintMask c) = 0#64) :
    v &&& ~~~(ierMask c) = 0#64 := and_not_or_eq_zero h c.swintMask

theorem and_not_ierMask_of_swint {c : Config} {v : Word} (h : v &&& ~~~c.swintMask = 0#64) :
    v &&& ~~~(ierMask c) = 0#64 := by
  rw [ierMask, BitVec.or_comm]
  exact and_not_or_eq_zero h (hwintMask c)

/-! ## A slot and a cache (R41, R42) -/

theorem SlotWidths.kill {c : Config} {e : Slot} (h : SlotWidths c e) : SlotWidths c e.kill := ⟨h.ppn, h.asn⟩

/-- The new entry of an insert has the widths of R41. -/
theorem slotWidths_newSlot {c : Config} {asn : Word} (hasn : asn &&& ~~~(lowMask c.asnBits) = 0#64) (w : Nat) (va pte : Word) :
    SlotWidths c (newSlot c w va pte asn) := ⟨and_lowMask_above _ _, hasn⟩

/-- The new entry of an insert has its reserved flag bits zero and a page-aligned tag (R104). -/
theorem slotShape_newSlot (c : Config) (w : Nat) (va pte asn : Word) : SlotShape c (newSlot c w va pte asn) where
  flags := by
    show pte.setWidth 16 &&& 0xFF77#16 &&& 0x0088#16 = 0#16
    rw [BitVec.and_assoc, show (0xFF77#16 &&& 0x0088#16 : BitVec 16) = 0#16 by decide, BitVec.and_zero]
  tag := by
    show sext w va &&& ~~~(lowMask c.pageShift) &&& lowMask c.pageShift = 0#64
    rw [BitVec.and_assoc, BitVec.and_comm (~~~_), BitVec.and_not_self]
    exact BitVec.and_zero

/-- A cache whose slots are the old ones, some of them killed, keeps the invariant. -/
theorem TlbInv.of_killed {c : Config} {t u : Tlb} (h : TlbInv c t) (hsize : u.slots.length = t.slots.length)
    (hnext : u.next = t.next)
    (hslots : ∀ {P : Slot → Prop}, (∀ e, P e → P e.kill) → (∀ e ∈ t.slots, P e) → ∀ e ∈ u.slots, P e) : TlbInv c u where
  size := hsize.trans h.size
  next := hnext ▸ h.next
  widths := hslots (fun _ => SlotWidths.kill) h.widths
  shape := hslots (fun _ _ hlive => absurd hlive Bool.false_ne_true) h.shape

theorem TlbInv.insert {c : Config} {t : Tlb} {e : Slot} (h : TlbInv c t) (hwidths : SlotWidths c e) (hshape : SlotShape c e) :
    TlbInv c (t.insert e) where
  size := (Tlb.length_insert e t).trans h.size
  next := Nat.mod_lt _ (by decide)
  widths := Tlb.forall_insert hwidths h.widths
  shape := Tlb.forall_insert (fun _ => hshape) h.shape

theorem TlbInv.flushAll {c : Config} {t : Tlb} (h : TlbInv c t) : TlbInv c t.flushAll :=
  h.of_killed t.length_flushAll t.next_flushAll Tlb.forall_flushAll

theorem TlbInv.flushNonGlobal {c : Config} {t : Tlb} (h : TlbInv c t) : TlbInv c t.flushNonGlobal :=
  h.of_killed t.length_flushNonGlobal t.next_flushNonGlobal Tlb.forall_flushNonGlobal

theorem TlbInv.flushPage {c : Config} {t : Tlb} (h : TlbInv c t) (va : Word) : TlbInv c (t.flushPage c va) :=
  h.of_killed (t.length_flushPage c va) (t.next_flushPage c va) Tlb.forall_flushPage

/-- A cache of 128 dead slots of their widths meets the invariant. -/
theorem TlbInv.of_dead {c : Config} {t : Tlb} (hsize : t.slots.length = Config.tlbEntries) (hnext : t.next = 0)
    (hwidths : ∀ e ∈ t.slots, SlotWidths c e) (hdead : ∀ e ∈ t.slots, e.live = false) : TlbInv c t where
  size := hsize
  next := hnext ▸ (by decide)
  widths := hwidths
  shape := fun e he hlive => absurd ((hdead e he).symm.trans hlive) Bool.false_ne_true

theorem CacheWrite.inv {s : State} {st : Stream} {t : Tlb} (h : s.Inv) (ht : CacheWrite s st t) : TlbInv s.cfg t := by
  cases ht with
  | insert va pte => exact (h.tlb st).insert (slotWidths_newSlot h.asn _ va pte) (slotShape_newSlot _ _ va pte _)
  | flushAll => exact (h.tlb st).flushAll
  | flushNonGlobal => exact (h.tlb st).flushNonGlobal
  | flushPage va => exact (h.tlb st).flushPage va

/-! ## Reset (R330) -/

theorem eq_empty_of_mem_empty {e : Slot} (he : e ∈ Tlb.empty.slots) : e = Slot.empty := List.eq_of_mem_replicate he

theorem tlbInv_empty (c : Config) : TlbInv c Tlb.empty :=
  .of_dead List.length_replicate rfl
    (fun _ he => eq_empty_of_mem_empty he ▸ ⟨BitVec.zero_and, BitVec.zero_and⟩) fun _ he => eq_empty_of_mem_empty he ▸ rfl

theorem length_freeWords (n k : Nat) : (freeWords n k).length = n := by
  simp [freeWords]

theorem length_freeTlb (c : Config) (k : Nat) : (freeTlb c k).slots.length = Config.tlbEntries := by
  simp [freeTlb]

/-- The slots of a cache after the reset input. -/
theorem exists_freeSlot_of_mem {c : Config} {k : Nat} {e : Slot} (he : e ∈ (freeTlb c k).slots) : ∃ j, e = freeSlot c j := by
  obtain ⟨j, -, rfl⟩ := List.mem_map.mp he
  exact ⟨_, rfl⟩

theorem live_of_mem_freeTlb {c : Config} {k : Nat} {e : Slot} (he : e ∈ (freeTlb c k).slots) : e.live = false := by
  obtain ⟨j, rfl⟩ := exists_freeSlot_of_mem he
  rfl

theorem tlbInv_freeTlb (c : Config) (k : Nat) : TlbInv c (freeTlb c k) := by
  refine .of_dead (length_freeTlb c k) rfl (fun e he => ?_) fun e he => live_of_mem_freeTlb he
  obtain ⟨j, rfl⟩ := exists_freeSlot_of_mem he
  exact ⟨and_lowMask_above _ _, and_lowMask_above _ _⟩

theorem resetWith_inv {c : Config} (h : c.wf = true) : (State.resetWith c).Inv where
  cfg := h
  x := List.length_replicate
  f := List.length_replicate
  sh := List.length_replicate
  ctx := ⟨fun _ => rfl, fun _ => rfl⟩
  asn := BitVec.zero_and
  ier := BitVec.zero_and
  sirr := BitVec.zero_and
  ipend := BitVec.zero_and
  software := BitVec.zero_and
  dctl := BitVec.zero_and
  itb := tlbInv_empty c
  dtb := tlbInv_empty c

theorem State.Inv.resetInput {s : State} (h : s.Inv) : (resetInput s).Inv :=
  { resetWith_inv h.cfg with
    x := length_freeWords _ _
    f := length_freeWords _ _
    sh := length_freeWords _ _
    itb := tlbInv_freeTlb _ _
    dtb := tlbInv_freeTlb _ _ }

/-! ## Every case of what a command can leave keeps the invariant -/

theorem State.Inv.setInputs {s : State} (h : s.Inv) (l : List Input) : (s.setInputs l).Inv := { h with }

theorem State.Inv.withReply {s : State} (h : s.Inv) (r : Reply) : (s.withReply r).Inv := { h with }

theorem State.Inv.withCondition {s : State} (h : s.Inv) (c : Condition) (aux : Word) : (s.withCondition c aux).Inv :=
  { h with }

theorem State.Inv.setTlb {s : State} (h : s.Inv) {st : Stream} {t : Tlb} (ht : TlbInv s.cfg t) : (s.setTlb st t).Inv := by
  cases st with
  | i => exact { h with itb := ht }
  | d => exact { h with dtb := ht }

/-- WRCTL ASN leaves each cache or flushes it (R154). -/
theorem State.Inv.changeAsn_caches {s : State} (h : s.Inv) (n : Word) :
    TlbInv s.cfg (s.changeAsn n).itb ∧ TlbInv s.cfg (s.changeAsn n).dtb := by
  unfold State.changeAsn
  split
  · exact ⟨h.itb.flushAll, h.dtb.flushAll⟩
  · exact ⟨h.itb, h.dtb⟩

/-- The banks keep their sizes where the shadow bank may be swapped. -/
theorem State.length_ite_swapShadow {p : Prop} [Decidable p] (s : State) :
    (if p then s.swapShadow else s).x.length = s.x.length ∧ (if p then s.swapShadow else s).sh.length = s.sh.length := by
  split
  · exact length_swapBanks _ _ _
  · exact ⟨rfl, rfl⟩

theorem State.length_changeIctl (n : BitVec 6) (s : State) :
    (s.changeIctl n).x.length = s.x.length ∧ (s.changeIctl n).sh.length = s.sh.length := s.length_ite_swapShadow

theorem State.length_returnTo (target : Word) (s : State) :
    (s.returnTo target).x.length = s.x.length ∧ (s.returnTo target).sh.length = s.sh.length := s.length_ite_swapShadow

theorem State.length_takeCondition (off : Offset) (s : State) :
    (s.takeCondition off).x.length = s.x.length ∧ (s.takeCondition off).sh.length = s.sh.length := by
  obtain ⟨hx, hsh⟩ := takeCondition_banks off s
  obtain ⟨hxlen, hshlen⟩ := s.length_ite_swapShadow (p := s.sde = true ∧ s.pal = false)
  rw [hx, hsh]
  refine ⟨?_, hshlen⟩
  split
  · exact (length_writeReg _ _ _).trans hxlen
  · exact hxlen

/-- The software field of IPEND follows a write of SIRR (R159). -/
theorem State.Inv.setSirr {s : State} (h : s.Inv) (v : Word) : (s.setSirr (v &&& s.cfg.swintMask)).Inv :=
  have hmasked := and_mask_and_not v s.cfg.swintMask
  { h with
    sirr := hmasked
    ipend := replaceField_and_not_eq_zero h.ipend (and_not_ierMask_of_swint hmasked)
    software := replaceField_and_self hmasked }

/-- The hardware lines leave the software field of IPEND (R210). -/
theorem State.Inv.deliver {s : State} (h : s.Inv) (a : Word) : (s.deliver a).Inv :=
  have hlines := irqLines_and_not_hwintMask s.cfg a
  { h with
    ipend := replaceField_and_not_eq_zero h.ipend (and_not_ierMask_of_hwint hlines)
    software := (replaceField_and_of_disjoint hlines (hwintMask_and_swintMask_of_wf h.cfg)).trans h.software }

theorem Leaves.inv {s u : State} {i : Instr} (h : s.Inv) (hu : Leaves s i u) : u.Inv := by
  cases hu with
  | same | cm | ivptb | dvptb | excAddr | excSum | palBase | itbTag | dtbTag | dataFault | redirected | intrFlag | wrpc =>
    exact { h with }
  | raised c aux => exact h.withCondition c aux
  | cache _ ht => exact h.setTlb (ht.inv h)
  | asn v =>
    obtain ⟨hitb, hdtb⟩ := h.changeAsn_caches (asnOf s.cfg v)
    exact { h with asn := and_lowMask_above v _, itb := hitb, dtb := hdtb }
  | ier v => exact { h with ier := and_mask_and_not v _ }
  | sirr v => exact h.setSirr v
  | ictl v =>
    obtain ⟨hx, hsh⟩ := s.length_changeIctl (v.setWidth 6)
    exact { h with x := hx.trans h.x, sh := hsh.trans h.sh }
  | dctl v =>
    have hfield : v.setWidth 6 &&& 0x3C#6 &&& 3#6 = 0#6 := by
      rw [BitVec.and_assoc, show (0x3C#6 &&& 3#6 : BitVec 6) = 0#6 by decide]
      exact BitVec.and_zero
    exact { h with dctl := hfield }
  | dispatched off =>
    obtain ⟨hx, hsh⟩ := s.length_takeCondition off
    exact { h with x := hx.trans h.x, sh := hsh.trans h.sh, ctx := ⟨fun _ => rfl, fun _ => rfl⟩ }
  | returned target =>
    obtain ⟨hx, hsh⟩ := s.length_returnTo target
    have hctx : (if target.getLsbD 0 then XlateCtx.pal else .normal) = .pal ↔ target.getLsbD 0 = true := by
      cases target.getLsbD 0 <;> decide
    exact { h with x := hx.trans h.x, sh := hsh.trans h.sh, ctx := hctx }
  | delivered lines => exact h.deliver lines
  | wrgpr n v => exact { h with x := (length_writeReg _ _ _).trans h.x }

theorem exec_inv {i : Instr} {s t : State} (h : s.Inv) (hexec : exec i s = .next t) : t.Inv := by
  obtain ⟨u, r, hu, rfl⟩ := exec_leaves hexec
  exact (hu.inv h).withReply r

theorem step_inv {s t : State} (h : s.Inv) (hstep : step s = .next t) : t.Inv := by
  obtain ⟨-, rfl⟩ | ⟨rest, -, rfl⟩ | ⟨c, rest, i, -, -, hexec⟩ := step_eq_next.mp hstep
  · exact h
  · exact (h.setInputs rest).resetInput
  · exact exec_inv (h.setInputs rest) hexec

end Sys2Proof.Machine

namespace Sys2Proof

open Sys2Proof.Machine

/-! ## The obligations -/

/-- Settles O7, by what a step can do: idling, the reset input, or a command, whose every case keeps the invariant. -/
theorem everyStepKeepsTheInvariant : Obligations.EveryStepKeepsTheInvariant := by
  unfold Obligations.EveryStepKeepsTheInvariant
  exact fun _ _ => step_inv

/-- Settles O8: every register is zero or has its size, and both caches are dead; the default configuration is well formed. -/
theorem resetMeetsTheInvariant : Obligations.ResetMeetsTheInvariant := by
  unfold Obligations.ResetMeetsTheInvariant
  exact ⟨resetWith_inv (by decide), fun _ => resetWith_inv⟩

end Sys2Proof
end

section
/-! Statements over every command, by the cases of what a command can leave: the writers of each piece of state (10_state.md R20
to R48), the floating registers (R22), the privileged mode (43_dispatch.md R213) and the shadow bank (10_state.md R23), with the
obligations on these. -/

namespace Sys2Proof.Machine

open Sys2Proof.Claims

/-! ## The writers of IPEND and of the caches -/

/-- A write of SIRR leaves the hardware field of IPEND (R159). -/
theorem State.setSirr_ipend_hwint {s : State} (h : s.cfg.wf = true) (v : Word) :
    (s.setSirr (v &&& s.cfg.swintMask)).ipend &&& hwintMask s.cfg = s.ipend &&& hwintMask s.cfg :=
  replaceField_and_of_disjoint (and_mask_and_not v _) (BitVec.and_comm _ _ ▸ hwintMask_and_swintMask_of_wf h)

/-- The hardware lines leave the software field of IPEND (R210). -/
theorem State.deliver_ipend_swint {s : State} (h : s.cfg.wf = true) (a : Word) :
    (s.deliver a).ipend &&& s.cfg.swintMask = s.ipend &&& s.cfg.swintMask :=
  replaceField_and_of_disjoint (irqLines_and_not_hwintMask s.cfg a) (hwintMask_and_swintMask_of_wf h)

theorem WritesCache.itb {i : Instr} (h : WritesCache .i i) :
    (∃ va pte, i = .tbins .i va pte) ∨ i = .tbia .i ∨ i = .tbiap .i ∨ (∃ va, i = .tbis .i va) ∨
      ∃ v, i = .wrctlAsn v ∨ i = .wrctlItbPte v ∨ i = .wrctlItbIa v ∨ i = .wrctlItbIap v ∨ i = .wrctlItbIs v := by
  cases h <;> simp

theorem WritesCache.dtb {i : Instr} (h : WritesCache .d i) :
    (∃ va pte, i = .tbins .d va pte) ∨ i = .tbia .d ∨ i = .tbiap .d ∨ (∃ va, i = .tbis .d va) ∨
      ∃ v, i = .wrctlAsn v ∨ i = .wrctlDtbPte v ∨ i = .wrctlDtbIa v ∨ i = .wrctlDtbIap v ∨ i = .wrctlDtbIs v := by
  cases h <;> simp

/-! ## The writers of each piece of state: the other cases leave it as it is -/

section
variable {s u : State} {i : Instr}

theorem Leaves.asn_writer (hu : Leaves s i u) (hne : u.asn ≠ s.asn) : ∃ v, i = .wrctlAsn v := by
  cases hu with
  | asn v => exact ⟨v, rfl⟩
  | _ => exact absurd rfl hne

theorem Leaves.cm_writer (hu : Leaves s i u) (hne : u.cm ≠ s.cm) : ∃ v, i = .wrctlCm v := by
  cases hu with
  | cm v => exact ⟨v, rfl⟩
  | _ => exact absurd rfl hne

theorem Leaves.ier_writer (hu : Leaves s i u) (hne : u.ier ≠ s.ier) : ∃ v, i = .wrctlIer v := by
  cases hu with
  | ier v => exact ⟨v, rfl⟩
  | _ => exact absurd rfl hne

theorem Leaves.sirr_writer (hu : Leaves s i u) (hne : u.sirr ≠ s.sirr) : ∃ v, i = .wrctlSirr v := by
  cases hu with
  | sirr v => exact ⟨v, rfl⟩
  | _ => exact absurd rfl hne

theorem Leaves.hwintField_writer (hu : Leaves s i u) (hne : u.ipend &&& hwintMask s.cfg ≠ s.ipend &&& hwintMask s.cfg)
    (hwf : s.cfg.wf = true) : ∃ l, i = .irq l := by
  cases hu with
  | delivered l => exact ⟨l, rfl⟩
  | sirr v => exact absurd (State.setSirr_ipend_hwint hwf v) hne
  | _ => exact absurd rfl hne

theorem Leaves.swintField_writer (hu : Leaves s i u) (hne : u.ipend &&& s.cfg.swintMask ≠ s.ipend &&& s.cfg.swintMask)
    (hwf : s.cfg.wf = true) : ∃ v, i = .wrctlSirr v := by
  cases hu with
  | sirr v => exact ⟨v, rfl⟩
  | delivered l => exact absurd (State.deliver_ipend_swint hwf l) hne
  | _ => exact absurd rfl hne

theorem Leaves.ictl_writer (hu : Leaves s i u) (hne : u.ictl ≠ s.ictl) : ∃ v, i = .wrctlIctl v := by
  cases hu with
  | ictl v => exact ⟨v, rfl⟩
  | _ => exact absurd rfl hne

theorem Leaves.dctl_writer (hu : Leaves s i u) (hne : u.dctl ≠ s.dctl) : ∃ v, i = .wrctlDctl v := by
  cases hu with
  | dctl v => exact ⟨v, rfl⟩
  | _ => exact absurd rfl hne

theorem Leaves.palBase_writer (hu : Leaves s i u) (hne : u.palBase ≠ s.palBase) : ∃ v, i = .wrctlPalBase v := by
  cases hu with
  | palBase v => exact ⟨v, rfl⟩
  | _ => exact absurd rfl hne

theorem Leaves.ivptb_writer (hu : Leaves s i u) (hne : u.ivptb ≠ s.ivptb) : ∃ v, i = .wrctlIvptb v := by
  cases hu with
  | ivptb v => exact ⟨v, rfl⟩
  | _ => exact absurd rfl hne

theorem Leaves.dvptb_writer (hu : Leaves s i u) (hne : u.dvptb ≠ s.dvptb) : ∃ v, i = .wrctlDvptb v := by
  cases hu with
  | dvptb v => exact ⟨v, rfl⟩
  | _ => exact absurd rfl hne

theorem Leaves.itbTag_writer (hu : Leaves s i u) (hne : u.itbTag ≠ s.itbTag) : ∃ v, i = .wrctlItbTag v := by
  cases hu with
  | itbTag v => exact ⟨v, rfl⟩
  | _ => exact absurd rfl hne

theorem Leaves.dtbTag_writer (hu : Leaves s i u) (hne : u.dtbTag ≠ s.dtbTag) : ∃ v, i = .wrctlDtbTag v := by
  cases hu with
  | dtbTag v => exact ⟨v, rfl⟩
  | _ => exact absurd rfl hne

theorem Leaves.excAddr_writer (hu : Leaves s i u) (hne : u.excAddr ≠ s.excAddr) :
    i = .dispatch ∨ (∃ target, i = .palret target) ∨ ∃ v, i = .wrctlExcAddr v := by
  cases hu with
  | dispatched => exact .inl rfl
  | redirected target => exact .inr (.inl ⟨target, rfl⟩)
  | excAddr v => exact .inr (.inr ⟨v, rfl⟩)
  | _ => exact absurd rfl hne

theorem Leaves.excSum_writer (hu : Leaves s i u) (hne : u.excSum ≠ s.excSum) :
    (∃ aux, i = .raiseGArith aux) ∨ (∃ k va insn, i = .memx k va insn ∧ k ≠ .execute) ∨ IsChecked i ∨
      ∃ v, i = .wrctlExcSum v := by
  cases hu with
  | raised c aux _ harith =>
    by_cases hc : c = .generic .arith
    · exact (harith hc).imp id fun hchecked => .inr (.inl hchecked)
    · exact absurd (if_neg hc) hne
  | dataFault hk va insn => exact .inr (.inl ⟨_, va, _, rfl, hk⟩)
  | excSum v => exact .inr (.inr (.inr ⟨v, rfl⟩))
  | _ => exact absurd rfl hne

theorem Leaves.conditionSlot_writer (hu : Leaves s i u) (hne : u.excCond ≠ s.excCond ∨ u.excAux ≠ s.excAux) :
    i = .dispatch ∨ IsRaiser i := by
  cases hu with
  | dispatched => exact .inl rfl
  | raised c aux hi => exact .inr hi
  | dataFault _ va insn => exact .inr (.inr (.inl ⟨_, va, _, rfl⟩))
  | _ => exact absurd ⟨rfl, rfl⟩ (not_and_or.mpr hne)

theorem Leaves.pc_writer (hu : Leaves s i u) (hne : u.pc ≠ s.pc) :
    i = .dispatch ∨ (∃ target, i = .palret target) ∨ ∃ v, i = .wrpc v := by
  cases hu with
  | dispatched => exact .inl rfl
  | redirected target | returned target => exact .inr (.inl ⟨target, rfl⟩)
  | wrpc v => exact .inr (.inr ⟨v, rfl⟩)
  | _ => exact absurd rfl hne

theorem Leaves.mode_writer (hu : Leaves s i u) (hne : u.pal ≠ s.pal ∨ u.xlateCtx ≠ s.xlateCtx) :
    i = .dispatch ∨ ∃ target, i = .palret target := by
  cases hu with
  | dispatched => exact .inl rfl
  | returned target => exact .inr ⟨target, rfl⟩
  | _ => exact absurd ⟨rfl, rfl⟩ (not_and_or.mpr hne)

theorem Leaves.x_writer (hu : Leaves s i u) (hne : u.x ≠ s.x) : IsSwapper i ∨ ∃ n v, i = .wrgpr n v := by
  cases hu with
  | dispatched => exact .inl (.inl rfl)
  | returned target => exact .inl (.inr (.inl ⟨target, rfl⟩))
  | ictl v => exact .inl (.inr (.inr ⟨v, rfl⟩))
  | wrgpr n v => exact .inr ⟨n, v, rfl⟩
  | _ => exact absurd rfl hne

theorem Leaves.sh_writer (hu : Leaves s i u) (hne : u.sh ≠ s.sh) : IsSwapper i := by
  cases hu with
  | dispatched => exact .inl rfl
  | returned target => exact .inr (.inl ⟨target, rfl⟩)
  | ictl v => exact .inr (.inr ⟨v, rfl⟩)
  | _ => exact absurd rfl hne

theorem Leaves.faultRegisters_writer (hu : Leaves s i u) (hne : u.mmStat ≠ s.mmStat ∨ u.faultVa ≠ s.faultVa) :
    ∃ k va insn, i = .memx k va insn ∧ k ≠ .execute := by
  cases hu with
  | dataFault hk va insn => exact ⟨_, va, _, rfl, hk⟩
  | _ => exact absurd ⟨rfl, rfl⟩ (not_and_or.mpr hne)

theorem Leaves.intrFlag_writer (hu : Leaves s i u) (hne : u.intrFlag ≠ s.intrFlag) : i = .rs ∨ i = .rc := by
  cases hu with
  | intrFlag _ hi => exact hi
  | _ => exact absurd rfl hne

theorem Leaves.itb_writer (hu : Leaves s i u) (hne : u.itb ≠ s.itb) :
    (∃ va pte, i = .tbins .i va pte) ∨ i = .tbia .i ∨ i = .tbiap .i ∨ (∃ va, i = .tbis .i va) ∨ ∃ v, i = .wrctlAsn v ∨
      i = .wrctlItbPte v ∨ i = .wrctlItbIa v ∨ i = .wrctlItbIap v ∨ i = .wrctlItbIs v := by
  cases hu with
  | @cache _ st _ hi =>
    cases st with
    | i => exact hi.itb
    | d => exact absurd rfl hne
  | asn v => exact .inr (.inr (.inr (.inr ⟨v, .inl rfl⟩)))
  | _ => exact absurd rfl hne

theorem Leaves.dtb_writer (hu : Leaves s i u) (hne : u.dtb ≠ s.dtb) :
    (∃ va pte, i = .tbins .d va pte) ∨ i = .tbia .d ∨ i = .tbiap .d ∨ (∃ va, i = .tbis .d va) ∨ ∃ v, i = .wrctlAsn v ∨
      i = .wrctlDtbPte v ∨ i = .wrctlDtbIa v ∨ i = .wrctlDtbIap v ∨ i = .wrctlDtbIs v := by
  cases hu with
  | @cache _ st _ hi =>
    cases st with
    | i => exact absurd rfl hne
    | d => exact hi.dtb
  | asn v => exact .inr (.inr (.inr (.inr ⟨v, .inl rfl⟩)))
  | _ => exact absurd rfl hne

end

end Sys2Proof.Machine

namespace Sys2Proof

open Sys2Proof.Machine Sys2Proof.Claims

/-- Settles O38, field by field, by the cases of what a command can leave. -/
theorem stateChangesOnlyThroughItsWriters : Obligations.StateChangesOnlyThroughItsWriters := by
  unfold Obligations.StateChangesOnlyThroughItsWriters
  intro i s t hexec
  obtain ⟨u, r, hu, rfl⟩ := exec_leaves hexec
  exact ⟨hu.asn_writer, hu.cm_writer, hu.ier_writer, hu.sirr_writer, hu.hwintField_writer, hu.swintField_writer,
    hu.ictl_writer, hu.dctl_writer, hu.palBase_writer, hu.ivptb_writer, hu.dvptb_writer, hu.itbTag_writer,
    hu.dtbTag_writer, hu.excAddr_writer, hu.excSum_writer, hu.conditionSlot_writer, hu.pc_writer, hu.mode_writer,
    hu.x_writer, hu.sh_writer, hu.faultRegisters_writer, hu.intrFlag_writer, hu.itb_writer, hu.dtb_writer⟩

/-- Settles O43, by the cases that write the mode: DISPATCH enters it, and PALRET leaves it by a completed return, which a
summarised interrupt would have redirected. -/
theorem privilegedModeIsEnteredAndLeftOnlyByItsCommands : Obligations.PrivilegedModeIsEnteredAndLeftOnlyByItsCommands := by
  unfold Obligations.PrivilegedModeIsEnteredAndLeftOnlyByItsCommands
  intro i s t hexec
  obtain ⟨u, r, hu, rfl⟩ := exec_leaves hexec
  refine ⟨fun hnormal hpal => ?entered, fun hpal hnormal => ?left, State.irqLine_of_pal⟩
  case entered =>
    cases hu with
    | dispatched => rfl
    | redirected _ hp | returned _ hp => exact absurd (hnormal.symm.trans hp) Bool.false_ne_true
    | _ => exact absurd (hnormal.symm.trans hpal) Bool.false_ne_true
  case left =>
    cases hu with
    | returned target _ hr =>
      have ht : target.getLsbD 0 = false := hnormal
      have hisum : s.isum = 0#64 := by_contra fun hne => hr ⟨hne, ht⟩
      refine ⟨⟨target, rfl, ht⟩, hisum, ?_⟩
      show (s.isum != 0#64 && !target.getLsbD 0) = false
      rw [hisum]
      rfl
    | dispatched => exact absurd hnormal.symm Bool.false_ne_true
    | _ => exact absurd (hnormal.symm.trans hpal) Bool.false_ne_true

end Sys2Proof
end

section
/-! The floating registers as a bystander: every command gives, on a state with other floating registers, the same answer with
those registers (10_state.md R22), with the obligation on it. -/

namespace Sys2Proof.Machine

/-- A state with its floating registers replaced. -/
def State.setFloat (fs : List Word) (s : State) : State := { s with f := fs }

/-- An answer with its next state changed, a stop kept. -/
def Step.onNext (g : State → State) : Step → Step
  | .next t => .next (g t)
  | .fault r => .fault r
  | .refused r => .refused r

section
variable (fs : List Word) (s : State)

/-! ## The operations that decide something commute with the replacement -/

theorem raise_setFloat (c : Condition) (aux : Word) :
    raise c aux (s.setFloat fs) = Step.onNext (State.setFloat fs) (raise c aux s) := by
  simp only [raise, State.setFloat]
  cases s.excCond <;> rfl

theorem changeAsn_setFloat (n : Word) : (s.setFloat fs).changeAsn n = (s.changeAsn n).setFloat fs :=
  congrArg (fun u : State => { u with asn := n })
    (apply_ite (State.setFloat fs) (n ≠ s.asn ∧ s.cfg.asnWriteFlushes = true) ((s.tlbFlushAll .i).tlbFlushAll .d) s).symm

theorem changeIctl_setFloat (n : BitVec 6) : (s.setFloat fs).changeIctl n = (s.changeIctl n).setFloat fs :=
  congrArg (fun u : State => { u with ictl := n })
    (apply_ite (State.setFloat fs) ((n.getLsbD 0 != s.sde && s.pal) = true) s.swapShadow s).symm

theorem returnTo_setFloat (target : Word) : (s.setFloat fs).returnTo target = (s.returnTo target).setFloat fs :=
  congrArg (State.setMode (target &&& ~~~3#64) (target.getLsbD 0))
    (apply_ite (State.setFloat fs) ((s.sde && (target.getLsbD 0 != s.pal)) = true) s.swapShadow s).symm

theorem swapOnEntry_setFloat : (s.setFloat fs).swapOnEntry = s.swapOnEntry.setFloat fs :=
  (apply_ite (State.setFloat fs) ((s.sde && !s.pal) = true) s.swapShadow s).symm

theorem linkCall_setFloat (off : Offset) (oldPc : Word) :
    (s.setFloat fs).linkCall off oldPc = (s.linkCall off oldPc).setFloat fs :=
  (apply_ite (State.setFloat fs) ((isCallVec s.cfg off && s.callr) = true) (s.writeX s.cfg.callLinkReg oldPc) s).symm

theorem takeCondition_setFloat (off : Offset) : (s.setFloat fs).takeCondition off = (s.takeCondition off).setFloat fs := by
  show ((((s.setExcAddr _).clearCondition).setFloat fs).swapOnEntry.linkCall off s.pc).setMode (s.entryPoint off) true = _
  rw [swapOnEntry_setFloat, linkCall_setFloat]
  rfl

theorem dispatchCondition_setFloat :
    dispatchCondition (s.setFloat fs) = Step.onNext (State.setFloat fs) (dispatchCondition s) := by
  unfold dispatchCondition
  rw [show (s.setFloat fs).excCond = s.excCond from rfl]
  cases s.excCond with
  | none => rfl
  | some c => exact congrArg (answer _) (takeCondition_setFloat fs s _)

theorem returnFromPal_setFloat (target : Word) :
    returnFromPal target (s.setFloat fs) = Step.onNext (State.setFloat fs) (returnFromPal target s) := by
  unfold returnFromPal
  rw [returnTo_setFloat]
  rw [show (s.setFloat fs).pal = s.pal from rfl, show (s.setFloat fs).isum = s.isum from rfl]
  split_ifs <;> rfl

theorem execMemx_setFloat (k : Kind) (va : Word) (insn : Option Word32) :
    execMemx k va insn (s.setFloat fs) = Step.onNext (State.setFloat fs) (execMemx k va insn s) := by
  unfold execMemx
  rw [show xlateOf k va (s.setFloat fs) = xlateOf k va s from rfl]
  cases xlateOf k va s with
  | ok pa cap => rfl
  | err r =>
    cases k with
    | execute => exact raise_setFloat fs s _ _
    | read | write =>
      cases insn with
      | none => rfl
      | some w => exact raise_setFloat fs (s.recordDataFault _ r va w) _ _

/-- An answer or a raise, as the decision reads no floating register. -/
theorem answerOrRaise_setFloat {p : Prop} [Decidable p] (v : Word) (c : Condition) (aux : Word) :
    (if p then answer v (s.setFloat fs) else raise c aux (s.setFloat fs)) =
      Step.onNext (State.setFloat fs) (if p then answer v s else raise c aux s) := by
  split_ifs
  · rfl
  · exact raise_setFloat fs s c aux

theorem raiseOrAnswer_setFloat {p : Prop} [Decidable p] (v : Word) (c : Condition) (aux : Word) :
    (if p then raise c aux (s.setFloat fs) else answer v (s.setFloat fs)) =
      Step.onNext (State.setFloat fs) (if p then raise c aux s else answer v s) := by
  split_ifs
  · exact raise_setFloat fs s c aux
  · rfl

/-! ## Every command does -/

theorem exec_setFloat (i : Instr) : exec i (s.setFloat fs) = Step.onNext (State.setFloat fs) (exec i s) := by
  cases i with
  | memx k va insn => exact execMemx_setFloat fs s k va insn
  | wrctlAsn v => exact congrArg (finish _ _) (changeAsn_setFloat fs s _)
  | wrctlIctl v => exact congrArg (finish _ _) (changeIctl_setFloat fs s _)
  | raiseGOpcdec aux | raiseGArith aux | raiseGFen aux | raiseGInterrupt aux | raiseV off aux => exact raise_setFloat fs s _ _
  | dispatch => exact dispatchCondition_setFloat fs s
  | palret target => exact returnFromPal_setFloat fs s target
  | cvtfs | cvtgt => exact raiseOrAnswer_setFloat fs s _ _ _
  | addlv | sublv | mullv | addqv | subqv | mulqv => exact answerOrRaise_setFloat fs s _ _ _
  | _ => rfl

end

end Sys2Proof.Machine

namespace Sys2Proof

open Sys2Proof.Machine

/-- Settles O11: the fields are written by no case of what a command can leave, and every command commutes with a replacement of
the floating registers. -/
theorem noCommandTouchesFloatingRegisters : Obligations.NoCommandTouchesFloatingRegisters := by
  unfold Obligations.NoCommandTouchesFloatingRegisters
  intro i s t fs hexec
  have hother : exec i (s.setFloat fs) = .next (t.setFloat fs) := by rw [exec_setFloat, hexec]; rfl
  obtain ⟨u, r, hu, rfl⟩ := exec_leaves hexec
  have hkept : u.f = s.f ∧ u.cfg = s.cfg ∧ u.inputs = s.inputs ∧ u.draws = s.draws := by
    cases hu <;> exact ⟨rfl, rfl, rfl, rfl⟩
  obtain ⟨hf, hcfg, hinputs, hdraws⟩ := hkept
  exact ⟨hf, hcfg, hinputs, hdraws, hother⟩

end Sys2Proof
end

section
/-! The shadow bank: the visible value and the hidden value of a shadowed register under every case of what a command can leave
(10_state.md R12, R23; 43_dispatch.md R204, R205, R208), with the obligation on it. -/

namespace Sys2Proof.Machine

/-! ## A swap and a change of the bank that is in cancel out -/

/-- Both values of a shadowed register stay where the banks are swapped exactly when the bank that is in changes. -/
theorem banks_eq_of_swap_iff {s u v : State} (h : s.Inv) {j : Nat} (hj : j < 8) (hcfg : u.cfg = s.cfg)
    (hv : v = if u.shadowIn = s.shadowIn then s else s.swapShadow) (hx : u.x = v.x) (hsh : u.sh = v.sh) :
    u.normalBank j = s.normalBank j ∧ u.shadowBank j = s.shadowBank j := by
  obtain ⟨hvisible, hhidden⟩ := h.swapShadow_exchanges hj
  have hread : u.readX (s.cfg.shadowSet.getD j 0) = v.readX (s.cfg.shadowSet.getD j 0) := congrArg (readReg · _) hx
  simp only [State.normalBank, State.shadowBank, hcfg, hread, hsh, hv]
  cases hu : u.shadowIn <;> cases hs : s.shadowIn
  · exact ⟨rfl, rfl⟩
  · exact ⟨hvisible, hhidden⟩
  · exact ⟨hhidden, hvisible⟩
  · exact ⟨rfl, rfl⟩

/-- Both values stay where neither the banks nor the bank that is in change. -/
theorem banks_eq_of_same {s u : State} (j : Nat) (hcfg : u.cfg = s.cfg) (hin : u.shadowIn = s.shadowIn) (hx : u.x = s.x)
    (hsh : u.sh = s.sh) : u.normalBank j = s.normalBank j ∧ u.shadowBank j = s.shadowBank j := by
  simp only [State.normalBank, State.shadowBank, State.readX, hcfg, hin, hx, hsh, and_self]

/-! ## The commands that swap do so exactly when they change the bank that is in -/

theorem ite_swapShadow_eq {p q : Prop} [Decidable p] [Decidable q] (h : p ↔ ¬q) (s : State) :
    (if p then s.swapShadow else s) = if q then s else s.swapShadow := by
  rw [if_congr h rfl rfl, ite_not]

/-- WRCTL ICTL (R168): in privileged mode a change of `SDE` changes the bank that is in. -/
theorem changeIctl_swaps (n : BitVec 6) (s : State) :
    (if (n.getLsbD 0 != s.sde) && s.pal then s.swapShadow else s) =
      if (s.pal && n.getLsbD 0) = s.shadowIn then s else s.swapShadow := by
  refine ite_swapShadow_eq ?_ s
  rw [State.shadowIn]
  cases n.getLsbD 0 <;> cases s.sde <;> cases s.pal <;> decide

/-- A completed return (R208): with shadow mode on, leaving privileged mode takes the shadow bank out. -/
theorem returnTo_swaps (target : Word) (s : State) :
    (if s.sde && (target.getLsbD 0 != s.pal) then s.swapShadow else s) =
      if (target.getLsbD 0 && s.sde) = s.shadowIn then s else s.swapShadow := by
  refine ite_swapShadow_eq ?_ s
  rw [State.shadowIn]
  cases target.getLsbD 0 <;> cases s.sde <;> cases s.pal <;> decide

/-! ## Every case of what a command can leave -/

theorem State.normalBank_of_shadowIn {s : State} (h : s.shadowIn = true) (j : Nat) : s.normalBank j = s.sh.getD j 0 :=
  if_pos h

theorem State.shadowBank_of_not_shadowIn {s : State} (h : s.shadowIn = false) (j : Nat) :
    s.shadowBank j = s.sh.getD j 0 := by
  rw [State.shadowBank, h]
  rfl

/-- With shadow mode on DISPATCH leaves the shadow bank in, so that its link write does not reach a normal-mode value (R205). -/
theorem normalBank_dispatched {s u : State} (h : s.Inv) {j : Nat} (hj : j < 8) {off : Offset} (hin : u.shadowIn = s.sde)
    (hsde : s.sde = true) (hsh : u.sh = (s.takeCondition off).sh) :
    u.normalBank j = s.normalBank j := by
  obtain ⟨-, hbanks⟩ := takeCondition_banks off s
  rw [State.normalBank_of_shadowIn (hin.trans hsde), hsh, hbanks]
  cases hpal : s.pal with
  | false =>
    have hout : ¬s.shadowIn = true := by simp [State.shadowIn, hpal]
    rw [if_pos ⟨hsde, rfl⟩, State.normalBank, if_neg hout]
    exact (h.swapShadow_exchanges hj).2
  | true =>
    have hwas : s.shadowIn = true := by simp [State.shadowIn, hpal, hsde]
    rw [if_neg (by simp), State.normalBank_of_shadowIn hwas]

/-- What a command may do to the two values of a shadowed register. -/
def BanksProtected (i : Instr) (s u : State) (j : Nat) : Prop :=
  ((∀ n v, i = .wrgpr n v → s.shadowIn = true) → (i = .dispatch → s.ictl.getLsbD 0 = true) →
      u.normalBank j = s.normalBank j) ∧
    (s.shadowIn = false → i ≠ .dispatch → u.shadowBank j = s.shadowBank j)

theorem banksProtected_of_eq {i : Instr} {s u : State} {j : Nat}
    (h : u.normalBank j = s.normalBank j ∧ u.shadowBank j = s.shadowBank j) : BanksProtected i s u j :=
  ⟨fun _ _ => h.left, fun _ _ => h.right⟩

theorem Leaves.banksProtected {s u : State} {i : Instr} (h : s.Inv) (hu : Leaves s i u) {j : Nat} (hj : j < 8) :
    BanksProtected i s u j := by
  cases hu with
  | ictl v => exact banksProtected_of_eq (banks_eq_of_swap_iff h hj rfl (changeIctl_swaps (v.setWidth 6) s) rfl rfl)
  | returned target => exact banksProtected_of_eq (banks_eq_of_swap_iff h hj rfl (returnTo_swaps target s) rfl rfl)
  | dispatched off =>
    exact ⟨fun _ hsde => normalBank_dispatched h hj rfl (hsde rfl) rfl, fun _ hne => absurd rfl hne⟩
  | wrgpr n v =>
    refine ⟨fun hin _ => ?_, fun hout _ => ?_⟩
    · rw [State.normalBank_of_shadowIn (hin n v rfl)]
      exact State.normalBank_of_shadowIn (s := s.writeX n.toNat v) (hin n v rfl) j
    · rw [State.shadowBank_of_not_shadowIn hout]
      exact State.shadowBank_of_not_shadowIn (s := s.writeX n.toNat v) hout j
  | _ => exact banksProtected_of_eq (banks_eq_of_same j rfl rfl rfl rfl)

end Sys2Proof.Machine

namespace Sys2Proof

open Sys2Proof.Machine

/-- Settles O47, by the cases of what a command can leave: a swap comes with a change of the bank that is in, and a plain write
of a register reaches the bank that is in only. -/
theorem shadowBankProtectsNormalRegisters : Obligations.ShadowBankProtectsNormalRegisters := by
  unfold Obligations.ShadowBankProtectsNormalRegisters
  intro i s t j hinv hexec hj
  obtain ⟨u, r, hu, rfl⟩ := exec_leaves hexec
  exact hu.banksProtected hinv hj

end Sys2Proof
end

section
/-! Completion: a command answers a next state exactly under its contract, and is otherwise refused by its rule's name
(30_encoding.md R88), with the obligation on it. -/

namespace Sys2Proof.Machine

/-- The answer is a next state under the contract, and otherwise this refusal. -/
def Step.CompletesUnder (contract : Prop) (why : Refusal) (o : Step) : Prop :=
  (contract → ∃ t, o = .next t) ∧ (¬contract → o = .refused why)

section
variable {s : State} {why : Refusal} {p : Prop}

theorem Step.CompletesUnder.congr {q : Prop} {o : Step} (h : Step.CompletesUnder q why o) (hpq : p ↔ q) :
    Step.CompletesUnder p why o := ⟨fun hp => h.1 (hpq.mp hp), fun hp => h.2 fun hq => hp (hpq.mpr hq)⟩

/-! ## The ways a command ends -/

theorem finish_completes (hp : p) (r : Result) (ev : List Event) : Step.CompletesUnder p why (finish r ev s) :=
  ⟨fun _ => ⟨_, rfl⟩, fun h => absurd hp h⟩

theorem raise_completes (c : Condition) (aux : Word) :
    Step.CompletesUnder (s.excCond = none) .conditionAlreadyRaised (raise c aux s) :=
  ⟨fun h => ⟨_, raise_eq_next.mpr ⟨h, rfl⟩⟩, fun h => raise_eq_refused.mpr ⟨h, rfl⟩⟩

/-- A conversion raises on a reserved operand only (R233, R236). -/
theorem raiseOrAnswer_completes [Decidable p] (c : Condition) (aux v : Word) :
    Step.CompletesUnder (p → s.excCond = none) .conditionAlreadyRaised (if p then raise c aux s else answer v s) := by
  split
  next hp => exact (raise_completes c aux).congr (forall_prop_of_true hp)
  next hp => exact finish_completes (fun h => absurd h hp) _ _

/-- A checked form raises outside its range only (R260). -/
theorem checked_completes (b : Bool) (v : Word) :
    Step.CompletesUnder (b = false → s.excCond = none) .conditionAlreadyRaised
      (if b then answer v s else raiseOverflow s) := by
  cases b with
  | true => exact finish_completes nofun _ _
  | false => exact (raise_completes _ _).congr (forall_prop_of_true rfl)

theorem dispatchCondition_completes :
    Step.CompletesUnder (s.excCond ≠ none) .nothingRaised (dispatchCondition s) := by
  unfold dispatchCondition
  cases s.excCond with
  | none => exact ⟨fun h => absurd rfl h, fun _ => rfl⟩
  | some c => exact finish_completes nofun _ _

theorem returnFromPal_completes (target : Word) :
    Step.CompletesUnder (s.pal = true) .notPrivileged (returnFromPal target s) := by
  refine ⟨fun hpal => ?_, fun hnormal => returnFromPal_of_normal (Bool.eq_false_of_not_eq_true hnormal) target⟩
  by_cases hr : s.isum ≠ 0#64 ∧ target.getLsbD 0 = false
  · exact ⟨_, returnFromPal_eq_next.mpr ⟨hpal, .inl ⟨hr.1, hr.2, rfl⟩⟩⟩
  · exact ⟨_, returnFromPal_eq_next.mpr ⟨hpal, .inr ⟨hr, rfl⟩⟩⟩

/-! ## MEMX (R130, R131) -/

/-- MEMX completes where its translation succeeds, and on a failed one as the classifier does. -/
theorem execMemx_completes {k : Kind} {va : Word} {insn : Option Word32}
    (hfault : ∀ r, Step.CompletesUnder (s.excCond = none ∧ p) why (classifyFault k r va insn s)) :
    Step.CompletesUnder (∀ r, xlateOf k va s = .err r → s.excCond = none ∧ p) why (execMemx k va insn s) := by
  unfold execMemx
  cases xlateOf k va s with
  | ok pa cap => exact finish_completes nofun _ _
  | err r => exact (hfault r).congr ⟨fun h => h r rfl, fun h _ _ => h⟩

theorem fetchFault_completes (c : Condition) :
    Step.CompletesUnder (s.excCond = none ∧ (Kind.execute = .execute ∨ p)) .conditionAlreadyRaised (raise c 0 s) :=
  (raise_completes c 0).congr (and_iff_left (.inl rfl))

/-- A failed data-stream access with the instruction word given raises. -/
theorem dataFault_some_completes (k : Kind) (r : FaultReason) (va : Word) (w : Word32) :
    Step.CompletesUnder (s.excCond = none ∧ (p ∨ some w ≠ none)) .conditionAlreadyRaised (dataFault k r va (some w) s) :=
  (raise_completes (s := s.recordDataFault k r va w) _ 0).congr (and_iff_left (.inr nofun))

/-- A failed data-stream access without the instruction word is refused. -/
theorem dataFault_none_completes {k : Kind} (hk : k ≠ .execute) (r : FaultReason) (va : Word) :
    Step.CompletesUnder (s.excCond = none ∧ (k = .execute ∨ (none : Option Word32) ≠ none)) .noCodeBlockContext
      (dataFault k r va none s) :=
  ⟨fun h => absurd h.2 (by simp [hk]), fun _ => rfl⟩

end

end Sys2Proof.Machine

namespace Sys2Proof

open Sys2Proof.Machine

/-- Settles O6, by the way each command ends. -/
theorem commandsCompleteExactlyUnderTheContract : Obligations.CommandsCompleteExactlyUnderTheContract := by
  unfold Obligations.CommandsCompleteExactlyUnderTheContract
  intro i s
  cases i with
  | memx k va insn =>
    cases k with
    | execute => exact execMemx_completes fun r => fetchFault_completes _
    | read =>
      cases insn with
      | none => exact execMemx_completes fun r => dataFault_none_completes (k := .read) nofun r va
      | some w => exact execMemx_completes fun r => dataFault_some_completes _ r va w
    | write =>
      cases insn with
      | none => exact execMemx_completes fun r => dataFault_none_completes (k := .write) nofun r va
      | some w => exact execMemx_completes fun r => dataFault_some_completes _ r va w
  | raiseGOpcdec | raiseGArith | raiseGFen | raiseGInterrupt | raiseV => exact raise_completes _ _
  | dispatch => exact dispatchCondition_completes
  | palret target => exact returnFromPal_completes target
  | cvtfs | cvtgt => exact raiseOrAnswer_completes _ _ _
  | addlv | sublv | mullv | addqv | subqv | mulqv => exact checked_completes _ _
  | _ => exact finish_completes trivial _ _

end Sys2Proof
end

section
/-! Steps and reset (00_scope.md R6; 20_memory.md R70; 70_reset_and_hazards.md R330): the oldest waiting input is taken, and
what the reset input leaves, with the obligations on these and on the command words of the spec's examples. -/

namespace Sys2Proof.Machine

theorem step_of_reset {s : State} {rest : List Input} (h : s.inputs = .reset :: rest) :
    step s = .next (resetInput (s.setInputs rest)) := step_eq_next.mpr (.inr (.inl ⟨rest, h, rfl⟩))

theorem resetWith_tlb (c : Config) (st : Stream) : (State.resetWith c).tlb st = Tlb.empty := by
  cases st <;> rfl

/-- Both caches after the reset input are free ones. -/
theorem resetInput_tlb (s : State) (st : Stream) : ∃ k, (resetInput s).tlb st = freeTlb s.cfg k := by
  cases st with
  | i => exact ⟨_, rfl⟩
  | d => exact ⟨_, rfl⟩

end Sys2Proof.Machine

namespace Sys2Proof

open Sys2Proof.Machine Sys2Proof.Claims

/-! ## The obligations -/

/-- Settles O1: the step takes the head of the list and runs what it decodes to. -/
theorem stepRunsTheOldestCommand : Obligations.StepRunsTheOldestCommand := by
  unfold Obligations.StepRunsTheOldestCommand
  exact fun _ _ _ _ hinputs hdecode => step_of_decode_instr hinputs hdecode

/-- Settles O9: the values stand in the definition of the reset state, and both caches are the empty one. -/
theorem resetLeavesTheSpecifiedValues : Obligations.ResetLeavesTheSpecifiedValues := by
  unfold Obligations.ResetLeavesTheSpecifiedValues
  intro c s
  refine ⟨rfl, rfl, rfl, rfl, rfl, rfl, rfl, rfl, rfl, rfl, rfl, rfl, rfl, rfl, rfl, rfl, rfl, BitVec.zero_and, rfl, rfl, rfl,
    rfl, rfl, rfl, State.irqLine_of_pal rfl, fun st => ?_⟩
  rw [resetWith_tlb]
  exact ⟨List.length_replicate, fun e he => eq_empty_of_mem_empty he ▸ rfl, rfl⟩

/-- Settles O10: the step ends in `resetInput`, which differs from the reset state in the free values, in what waits and in the
count of free values only. -/
theorem resetInputGivesTheSpecifiedValues : Obligations.ResetInputGivesTheSpecifiedValues := by
  unfold Obligations.ResetInputGivesTheSpecifiedValues
  intro s rest hinputs
  refine ⟨_, step_of_reset hinputs, rfl, rfl, rfl, length_freeWords _ _, length_freeWords _ _, length_freeWords _ _,
    State.irqLine_of_pal rfl, fun st => ?_, rfl⟩
  obtain ⟨k, hfree⟩ := resetInput_tlb (s.setInputs rest) st
  rw [hfree]
  exact ⟨length_freeTlb _ k, fun _ he => live_of_mem_freeTlb he, rfl⟩

/-- Settles O5: each word is an opcode with its fields, and its format reads them back. -/
theorem specExampleWordsDecode : Obligations.SpecExampleWordsDecode := by
  unfold Obligations.SpecExampleWordsDecode
  exact ⟨fun va b insn => decode_word 0x09 0 1 va b insn true,
    fun a b insn valid => decode_word 0x11 0x0E 0 a b insn valid,
    fun a b insn valid => decode_word 0x18 0x03 1 a b insn valid,
    (opensAs_streamWords 0x05 (fun st a _ => .tbis st a) fun _ _ _ => rfl).2,
    (opensAs_streamWords 0x01 .tblkup fun _ _ _ => rfl).1,
    fun a b insn valid => decode_word 0x08 0 2 a b insn valid,
    fun a b insn valid => decode_word 0x10 0xFF 0 a b insn valid,
    opensAs_registerWord 0x31 (fun n a _ => .wrgpr n a) (fun _ _ _ => rfl) 23⟩

end Sys2Proof
end

section
/-! The dispatcher's remaining commands: RAISE, the completed return of PALRET, the write of ICTL, and the two traps an engine
issues as pairs of commands (43_dispatch.md R200 to R208; 42_control_registers.md R168; 30_encoding.md R90), with the obligations
on them. -/

namespace Sys2Proof

/-! ## The offset of a vectored RAISE (R83, R86) -/

theorem formatG_of_offset {a : Word} (h : a.toNat < 2 ^ 16) (aux : Word) :
    formatG 0 0 a aux = .instr (.raiseV (a.setWidth 16) aux) := by
  have hback : (a.setWidth 16).setWidth 64 = a := by
    rw [← BitVec.toNat_inj, BitVec.toNat_setWidth, BitVec.toNat_setWidth]
    omega
  have h := formatG_offset (a.setWidth 16) aux
  rwa [hback] at h

end Sys2Proof

namespace Sys2Proof.Machine

open Sys2Proof.Claims

/-! ## RAISE (R201) -/

/-- A command that raises places its condition with the slot free, and is refused with the slot full. -/
theorem raise_outcomes {i : Instr} {c : Condition} {aux : Word} {s : State} (hexec : exec i s = raise c aux s)
    (harith : i = .raiseGArith aux ↔ c = .generic .arith) :
    (s.excCond = none → exec i s = .next
        { s with
          excCond := some c
          excAux := aux
          excSum := if i = .raiseGArith aux then aux else s.excSum
          reply := some ⟨.fault c, []⟩ }) ∧
      (s.excCond ≠ none → exec i s = .refused .conditionAlreadyRaised) := by
  rw [hexec, if_congr harith rfl rfl]
  exact ⟨fun hfree => raise_eq_next.mpr ⟨hfree, rfl⟩, fun hfull => raise_eq_refused.mpr ⟨hfull, rfl⟩⟩

/-! ## The write of ICTL (R168) -/

theorem State.changeIctl_of_swap {n : BitVec 6} {s : State} (hpal : s.pal = true) (hne : n.getLsbD 0 ≠ s.sde) :
    s.changeIctl n = { s.swapShadow with ictl := n } := by
  have hcond : ((n.getLsbD 0 != s.sde) && s.pal) = true := by
    rw [hpal, Bool.and_true]
    exact bne_iff_ne.mpr hne
  exact congrArg (fun r : State => { r with ictl := n }) (if_pos hcond)

theorem State.changeIctl_of_keep {n : BitVec 6} {s : State} (h : s.pal = false ∨ n.getLsbD 0 = s.sde) :
    s.changeIctl n = { s with ictl := n } := by
  have hcond : ((n.getLsbD 0 != s.sde) && s.pal) = false := by
    rcases h with hpal | hsde
    · rw [hpal, Bool.and_false]
    · rw [hsde, bne_self_eq_false, Bool.false_and]
  exact congrArg (fun r : State => { r with ictl := n }) (if_neg (Bool.eq_false_iff.mp hcond))

/-- Bit 0 of the six stored bits is bit 0 of the word. -/
theorem getLsbD_zero_setWidth_six (v : Word) : (v.setWidth 6).getLsbD 0 = v.getLsbD 0 := by
  simp

/-! ## The completed return (R208) -/

/-- Clearing the low two bits rounds down to a multiple of 4. -/
theorem toNat_and_not_three (v : Word) : (v &&& ~~~3#64).toNat = v.toNat / 4 * 4 := by
  have hshift : v &&& ~~~(lowMask 2) = v >>> 2 <<< 2 := by
    ext i hi
    simp only [BitVec.getElem_and, BitVec.getElem_not, getElem_lowMask, BitVec.getElem_shiftLeft]
    by_cases h2 : i < 2
    · simp [h2]
    · simp [h2, show 2 + (i - 2) = i by omega, BitVec.getLsbD_eq_getElem hi]
  show (v &&& ~~~(lowMask 2)).toNat = _
  rw [hshift, BitVec.toNat_shiftLeft, BitVec.toNat_ushiftRight, Nat.shiftLeft_eq, Nat.shiftRight_eq_div_pow]
  have hlt := v.isLt
  omega

/-- From privileged mode the return swaps exactly when shadow mode is on and it leaves the mode. -/
theorem returnTo_banks {target : Word} {s : State} (hpal : s.pal = true) :
    (if s.sde && (target.getLsbD 0 != s.pal) then s.swapShadow else s) =
      if s.ictl.getLsbD 0 = true ∧ target.getLsbD 0 = false then s.swapShadow else s := by
  refine if_congr ?_ rfl rfl
  simp [State.sde, hpal]

/-! ## A trap: a raise and its DISPATCH (R90) -/

/-- The state after a raise of `c` and the transition that takes it. -/
def State.trapTo (c : Condition) (aux : Word) (s : State) : State :=
  ((s.withCondition c aux).withReply ⟨.fault c, []⟩).takeCondition (vectorOf s.cfg c)

/-- With the slot free a raise and DISPATCH run through, and end in the transition of what was raised. -/
theorem execAll_raise_dispatch {i : Instr} {c : Condition} {aux : Word} {s : State} (hexec : exec i s = raise c aux s)
    (hfree : s.excCond = none) :
    execAll [i, .dispatch] s = .next ((s.trapTo c aux).withReply ⟨.done (.value (s.entryPoint (vectorOf s.cfg c))), []⟩) := by
  have hraise : exec i s = .next ((s.withCondition c aux).withReply ⟨.fault c, []⟩) :=
    hexec.trans (raise_eq_next.mpr ⟨hfree, rfl⟩)
  simp only [execAll, hraise]
  rfl

/-- What a trap leaves: the transition's own fields, and everything else as before the raise but the banks and `EXC_SUM`. -/
theorem State.trapTo_eq (c : Condition) (aux : Word) (s : State) :
    s.trapTo c aux =
      { s with
        excSum := if c = .generic .arith then aux else s.excSum, excAddr := s.pc ||| bitWord s.pal, excCond := none,
        excAux := 0, pc := s.entryPoint (vectorOf s.cfg c), pal := true, xlateCtx := .pal, x := (s.trapTo c aux).x,
        sh := (s.trapTo c aux).sh, reply := some ⟨.fault c, []⟩ } := by
  rw [State.trapTo]
  exact State.takeCondition_eq _ _

end Sys2Proof.Machine

namespace Sys2Proof

open Sys2Proof.Machine Sys2Proof.Claims

/-! ## The obligations -/

/-- Settles O39: every RAISE is the raise of its condition. -/
theorem raisePlacesTheCondition : Obligations.RaisePlacesTheCondition := by
  unfold Obligations.RaisePlacesTheCondition
  refine ⟨fun a b insn valid => decode_word 0x18 0 1 a b insn valid, fun a b insn valid => decode_word 0x18 1 1 a b insn valid,
    fun a b insn valid => decode_word 0x18 2 1 a b insn valid, fun a b insn valid => decode_word 0x18 3 1 a b insn valid,
    fun a b insn valid ha => (decode_word 0x18 0 0 a b insn valid).trans (formatG_of_offset ha b), fun off aux s => ?_⟩
  refine List.forall_iff_forall_mem.mp ?_
  exact ⟨raise_outcomes rfl (by simp), raise_outcomes rfl (by simp), raise_outcomes rfl (by simp),
    raise_outcomes rfl (by simp), raise_outcomes rfl (by simp)⟩

/-- Settles O35, by whether the write changes `SDE` in privileged mode. -/
theorem ictlWriteSwapsOnlyWhenPrivilegedSdeChanges : Obligations.IctlWriteSwapsOnlyWhenPrivilegedSdeChanges := by
  unfold Obligations.IctlWriteSwapsOnlyWhenPrivilegedSdeChanges
  intro v s
  refine ⟨_, rfl, BitVec.toNat_setWidth 6 v, fun hpal hne => ?swaps, fun h => ?keeps, ?reply, ?frame⟩
  case swaps =>
    rw [← getLsbD_zero_setWidth_six] at hne
    rw [State.changeIctl_of_swap hpal hne]
    exact ⟨rfl, rfl⟩
  case keeps =>
    rw [← getLsbD_zero_setWidth_six] at h
    rw [State.changeIctl_of_keep h]
    exact ⟨rfl, rfl⟩
  case reply =>
    rw [State.withReply_reply, show (0x3F#64 : Word) = lowMask 6 from rfl, reservedBits_lowMask]
    rfl
  case frame =>
    rw [State.changeIctl_eq]
    rfl

/-- Settles O41: a return that is not redirected is `State.returnTo`. -/
theorem palretReturnsToItsTarget : Obligations.PalretReturnsToItsTarget := by
  unfold Obligations.PalretReturnsToItsTarget
  refine ⟨opensAs_plainWord 0x1A (fun a _ => .palret a) fun _ => rfl, fun target s hpal hstays => ?_⟩
  intro left
  have hcompleted : ¬(s.isum ≠ 0#64 ∧ target.getLsbD 0 = false) := by
    rintro ⟨hisum, ht⟩
    exact hstays.elim hisum fun h => Bool.false_ne_true (ht.symm.trans h)
  have hbanks := returnTo_banks (target := target) hpal
  refine ⟨_, returnFromPal_eq_next.mpr ⟨hpal, .inr ⟨hcompleted, rfl⟩⟩, toNat_and_not_three target, rfl, rfl,
    (congrArg State.x hbanks :), (congrArg State.sh hbanks :), rfl, ?frame⟩
  case frame =>
    rw [State.returnTo_eq]
    rfl

/-- Settles O46: both traps are a raise and its DISPATCH, which end in `State.trapTo`. -/
theorem trapsEnterPrivilegedMode : Obligations.TrapsEnterPrivilegedMode := by
  unfold Obligations.TrapsEnterPrivilegedMode
  refine ⟨fun s hline hfree => ?interrupt, fun off aux s hfree => ?vectored⟩
  case interrupt =>
    obtain ⟨-, hnormal⟩ := s.irqLine_iff.mp hline
    refine ⟨_, (if_pos hline).trans (execAll_raise_dispatch (i := .raiseGInterrupt 0) rfl hfree), ?_⟩
    rw [State.trapTo_eq]
    refine ⟨rfl, rfl, ?_, State.irqLine_of_pal rfl, rfl, rfl, rfl, rfl, rfl⟩
    show s.pc ||| bitWord s.pal = s.pc
    rw [or_bitWord, if_neg (by simp [hnormal])]
  case vectored =>
    refine ⟨_, execAll_raise_dispatch (i := .raiseV off aux) rfl hfree, ?_⟩
    rw [State.trapTo_eq]
    exact ⟨rfl, rfl, or_bitWord s.pc s.pal, rfl, rfl, rfl, rfl, rfl⟩

end Sys2Proof
end

section
/-! What a lookup says of the slot it answers, that a lookup finds the slot just inserted, and what TBIS removes
(40_tlb.md R100 to R107; 20_memory.md R75), with the obligations on these. -/

namespace Sys2Proof.Machine

open Sys2Proof.Claims

/-! ## The slot TBINS writes is found (R101, R104) -/

/-- No page is smaller than the base page. -/
theorem Slot.le_pageShift (c : Config) (e : Slot) : c.pageShift ≤ e.pageShift c := Nat.le_add_right _ _

/-- Clearing the bits below a page changes no page number at or above it. -/
theorem ushiftRight_and_not_lowMask {p k : Nat} (hpk : p ≤ k) (v : Word) : (v &&& ~~~(lowMask p)) >>> k = v >>> k := by
  refine BitVec.eq_of_getLsbD_eq fun i hi => ?_
  have hge : ¬k + i < p := by omega
  rw [BitVec.getLsbD_ushiftRight, BitVec.getLsbD_ushiftRight, BitVec.getLsbD_and, BitVec.getLsbD_not, getLsbD_lowMask]
  by_cases hlt : k + i < 64
  · simp [hlt, hge]
  · rw [BitVec.getLsbD_of_ge v (k + i) (by omega), Bool.false_and]

/-- The tag of an inserted entry is in the page of its address, when that is canonical. -/
theorem tagOf_ushiftRight {c : Config} {w k : Nat} {va : Word} (hcanonical : canonical w va = true) (hk : c.pageShift ≤ k) :
    tagOf c w va >>> k = va >>> k := by
  rw [tagOf, beq_iff_eq.mp hcanonical, ushiftRight_and_not_lowMask hk]

/-- The flag word keeps the global bit of the operand (R42). -/
theorem getLsbD_four_pteFlags (pte : Word) : (pteFlags pte).getLsbD 4 = pte.getLsbD 4 := by
  simp [pteFlags]

/-- The entry built for a canonical address answers it, under its own ASN and, when it is global, under any. -/
theorem newSlot_answers {c : Config} {w : Nat} {va pte asn asn' : Word} (hcanonical : canonical w va = true)
    (hasn : asn' = asn ∨ pte.getLsbD 4 = true) : Answers c (newSlot c w va pte asn) va asn' := by
  refine ⟨rfl, tagOf_ushiftRight hcanonical (Slot.le_pageShift c _), ?_⟩
  rcases hasn with h | h
  · exact .inr h.symm
  · exact .inl ((getLsbD_four_pteFlags pte).trans h)

/-- A lookup misses nothing that a slot of the cache answers. -/
theorem Tlb.lookup_ne_none_of_answers {c : Config} {t : Tlb} {va asn : Word} {e : Slot} (hmem : e ∈ t.slots)
    (hanswers : Answers c e va asn) : t.lookup c va asn ≠ none := fun hnone =>
  Tlb.lookup_eq_none_iff_answers.mp hnone e hmem hanswers

/-! ## What TBIS removes (R107, R75; log entry 16) -/

theorem Slot.covers_iff_holds {c : Config} {e : Slot} {va : Word} : e.covers c va = true ↔ Holds c e va := by
  simp only [Slot.covers, Holds, Bool.and_eq_true, beq_iff_eq]

theorem Tlb.inCoveredRange_iff {c : Config} {t : Tlb} {va : Word} {e : Slot} :
    t.inCoveredRange c va e = true ↔
      e.live = true ∧ ∃ r ∈ t.slots, Holds c r va ∧ e.tag >>> r.pageShift c = r.tag >>> r.pageShift c := by
  simp only [Tlb.inCoveredRange, Bool.and_eq_true, List.any_eq_true, Slot.covers_iff_holds, beq_iff_eq]

theorem Tlb.removes_iff_removed {c : Config} {t : Tlb} {va : Word} {e : Slot} :
    t.removes c va e = true ↔ Removed c t va e := by
  rw [Tlb.removes, Bool.or_eq_true, Slot.covers_iff_holds, Removed]
  cases c.flushReach with
  | covering => simp
  | wholeRange => simp [Tlb.inCoveredRange_iff]

/-- Two addresses of one base page are in the same page of every slot. -/
theorem Slot.covers_of_same_base_page {c : Config} {e : Slot} {va va' : Word}
    (hsame : va' >>> c.pageShift = va >>> c.pageShift) (hcovers : e.covers c va' = true) : e.covers c va = true := by
  rw [Slot.covers_iff_holds] at hcovers ⊢
  obtain ⟨hlive, hpage⟩ := hcovers
  refine ⟨hlive, hpage.trans ?_⟩
  rw [Slot.pageShift, BitVec.shiftRight_add, BitVec.shiftRight_add, hsame]

/-- After a page flush every address of the operand's own base page misses. -/
theorem Tlb.lookup_flushPage_same_base_page {c : Config} {va va' : Word} (asn : Word) (t : Tlb)
    (hsame : va' >>> c.pageShift = va >>> c.pageShift) : (t.flushPage c va).lookup c va' asn = none :=
  Tlb.lookup_flushPage_eq_none fun _ _ hcovers => Tlb.removes_of_covers (Slot.covers_of_same_base_page hsame hcovers)

/-- After a page flush every address of a removed page misses: of every one under the wide reach, under the other of one that no
smaller slot holds beside it. -/
theorem Tlb.lookup_flushPage_removed_page {c : Config} {t : Tlb} {e : Slot} {va va' : Word} (asn : Word) (hmem : e ∈ t.slots)
    (hholds : Holds c e va) (hinside : va' >>> e.pageShift c = e.tag >>> e.pageShift c)
    (hreach : c.flushReach = .wholeRange ∨
      ∀ a ∈ t.slots, Holds c a va' → ¬Holds c a va → e.pageShift c ≤ a.pageShift c) :
    (t.flushPage c va).lookup c va' asn = none := by
  rw [← Slot.covers_iff_holds] at hholds
  rcases hreach with hwide | hlarger
  · exact Tlb.lookup_flushPage_wholeRange hwide hmem hholds hinside
  · refine Tlb.lookup_flushPage_covering hholds hinside fun a ha hcovers hapart =>
      hlarger a ha (Slot.covers_iff_holds.mp hcovers) fun hheld => ?_
    exact Bool.false_ne_true (hapart.symm.trans (Slot.covers_iff_holds.mpr hheld))

/-- The slots after a page flush, by the statement's words. -/
theorem Tlb.getElem?_flushPage (c : Config) (va : Word) (t : Tlb) (i : Nat) :
    (t.flushPage c va).slots[i]? =
      t.slots[i]?.map fun e => if Removed c t va e then { e with live := false } else e := by
  simp only [← Tlb.removes_iff_removed]
  exact List.getElem?_map

/-- Writing nothing for the elements that fail a test is writing for the filtered list. -/
theorem flatMap_ite_nil {α β : Type} (p : α → Prop) [DecidablePred p] (f : α → List β) (l : List α) :
    (l.flatMap fun a => if p a then f a else []) = (l.filter fun a => decide (p a)).flatMap f := by
  induction l with
  | nil => rfl
  | cons a l ih =>
    by_cases h : p a
    · simp [h, ih]
    · simp [h, ih]

/-- The events of a page flush, by the statement's words. -/
theorem Tlb.flushPageEvents_eq (c : Config) (va : Word) (t : Tlb) :
    t.flushPageEvents c va = (t.slots.filter fun e => decide (Removed c t va e)).flatMap (pageEvents c) := by
  simp only [Tlb.flushPageEvents, Tlb.removes_iff_removed]
  exact flatMap_ite_nil (Removed c t va) (pageEvents c) t.slots

end Sys2Proof.Machine

namespace Sys2Proof

open Sys2Proof.Machine Sys2Proof.Claims

/-! ## The obligations -/

/-- Settles O13: the slot a lookup answers is one that answers, and a live global slot answers under every ASN. -/
theorem onlyGlobalEntriesMatchUnderAnotherAsn : Obligations.OnlyGlobalEntriesMatchUnderAnotherAsn := by
  unfold Obligations.OnlyGlobalEntriesMatchUnderAnotherAsn
  refine ⟨fun c t va asn i e hlookup hlocal => ?own, fun c t va e hmem hlive hglobal hpage asn => ?anyAsn⟩
  case own =>
    obtain ⟨-, ⟨-, -, hasn⟩, -⟩ := Tlb.lookup_eq_some_iff_firstAnswer.mp hlookup
    exact hasn.resolve_left fun hglobal => Bool.false_ne_true (hlocal.symm.trans hglobal)
  case anyAsn => exact Tlb.lookup_ne_none_of_answers hmem ⟨hlive, hpage, .inl hglobal⟩

/-- Settles O15: the entry TBINS built stands in the slot `next`, and it answers. -/
theorem lookupAfterInsertFindsAnEntry : Obligations.LookupAfterInsertFindsAnEntry := by
  unfold Obligations.LookupAfterInsertFindsAnEntry
  intro st va pte asn s hinv hhigh hasn
  refine ⟨(s.tlbInsert st va pte).withReply ⟨.done (.value 0), insertEvents st pte⟩, rfl, ?_⟩
  have hnext : (s.tlb st).next < (s.tlb st).slots.length := (hinv.tlb st).size ▸ (hinv.tlb st).next
  have hmem := List.mem_of_getElem? (Tlb.getElem?_insert_next hnext (newSlot s.cfg (s.vaWidth st) va pte s.asn))
  rw [State.tlb_withReply, State.tlbInsert, State.tlb_setTlb_self]
  exact Tlb.lookup_ne_none_of_answers hmem (newSlot_answers (canonical_vaWidth_iff.mpr hhigh) hasn)

/-- Settles O18: the command replaces one cache by its flush of one page. -/
theorem tbisRemovesEveryCoveringEntry : Obligations.TbisRemovesEveryCoveringEntry := by
  unfold Obligations.TbisRemovesEveryCoveringEntry
  obtain ⟨hi, hd⟩ := opensAs_streamWords 0x05 (fun st a _ => .tbis st a) fun _ _ _ => rfl
  refine ⟨hi, hd, fun st va s =>
    ⟨(s.tlbFlushPage st va).withReply ⟨.done (.value 0), (s.tlb st).flushPageEvents s.cfg va⟩, rfl, ?_⟩⟩
  rw [State.tlb_withReply, State.tlbFlushPage, State.tlb_setTlb_self, State.withReply_reply, Tlb.flushPageEvents_eq]
  exact ⟨Tlb.getElem?_flushPage _ va _, Tlb.next_flushPage _ va _, fun _ hne => State.tlb_setTlb_other hne _ s, rfl, rfl,
    fun _ asn hsame => Tlb.lookup_flushPage_same_base_page asn _ hsame,
    fun _ hmem hholds _ asn hinside hreach => Tlb.lookup_flushPage_removed_page asn hmem hholds hinside hreach⟩

end Sys2Proof
end

section
/-! What a translation answers: the canonical test, the superpage windows, the slot that decides, and the MEMX that answers like
XLATE (41_translate.md R120 to R130), with the obligations on these. -/

namespace Sys2Proof.Machine

open Sys2Proof.Claims

/-! ## The canonical test (R60, R122) -/

theorem translateSlot_ne_badVirtualAddress (c : Config) (k : Kind) (m : BitVec 2) (e : Slot) (va : Word) :
    translateSlot c k m e va ≠ .err .badVirtualAddress := by
  unfold translateSlot
  split
  next => exact Translation.err.inj.mt FaultReason.noConfusion
  next =>
    split
    next => exact Translation.err.inj.mt FaultReason.noConfusion
    next => exact Translation.noConfusion

theorem translateCached_ne_badVirtualAddress (k : Kind) (va : Word) (s : State) :
    translateCached k va s ≠ .err .badVirtualAddress := by
  unfold translateCached
  split
  next => exact Translation.err.inj.mt FaultReason.noConfusion
  next => exact translateSlot_ne_badVirtualAddress _ _ _ _ _

/-- Only the canonical test answers a bad virtual address. -/
theorem translateVirtual_eq_badVirtualAddress {k : Kind} {va : Word} {s : State} :
    translateVirtual k va s = .err .badVirtualAddress ↔ canonical (s.vaWidth (streamOf k)) va = false := by
  refine ⟨fun h => ?_, fun h => if_pos h⟩
  by_contra hcanonical
  rw [translateVirtual, if_neg hcanonical] at h
  split at h
  next =>
    split at h
    next => exact FaultReason.noConfusion (Translation.err.inj h)
    next => exact Translation.noConfusion h
  next => exact translateCached_ne_badVirtualAddress k va s h

/-! ## The windows (R123) -/

/-- The scan finds the largest window that applies. -/
theorem windowHit_eq_some {k : Kind} {va : Word} {s : State} {n : Nat} (hn : n < 3) (happlies : WindowApplies k va s n)
    (hlargest : ∀ m, n < m → m < 3 → ¬WindowApplies k va s m) : windowHit s (streamOf k) va = some n := by
  simp only [WindowApplies, ← Bool.and_eq_true] at happlies hlargest
  obtain rfl | rfl | rfl : n = 0 ∨ n = 1 ∨ n = 2 := by omega
  · simp only [windowHit, List.find?_cons, happlies, hlargest 2 (by decide) (by decide), hlargest 1 (by decide) (by decide)]
  · simp only [windowHit, List.find?_cons, happlies, hlargest 2 (by decide) (by decide)]
  · simp only [windowHit, List.find?_cons, happlies]

/-- A translation whose largest applying window is `n` is decided by it and by the mode. -/
theorem xlateOf_of_window {k : Kind} {va : Word} {s : State} {n : Nat} (hpasses : PassesCanonicalTest k va s) (hn : n < 3)
    (happlies : WindowApplies k va s n) (hlargest : ∀ m, n < m → m < 3 → ¬WindowApplies k va s m) :
    xlateOf k va s =
      if s.cm ≠ 0#2 then .err (.accessViolation true false false) else .ok (windowPa s.cfg n va) ⟨true, true, true⟩ := by
  obtain ⟨hvirtual, hhigh⟩ := hpasses
  rw [xlateOf_of_not_physical hvirtual, translateVirtual, canonical_vaWidth_iff.mpr hhigh,
    windowHit_eq_some hn happlies hlargest]
  rfl

/-! ## The default windows on the bits of the address (R123, R8) -/

theorem toNat_field (v : Word) (lo len : Nat) : (field v lo len).toNat = v.toNat / 2 ^ lo % 2 ^ len := by
  rw [field, toNat_and_lowMask, BitVec.toNat_ushiftRight, Nat.shiftRight_eq_div_pow]

/-- A field of the address equals a constant of its width exactly when its bits do. -/
theorem field_beq_iff {v : Word} {lo len value : Nat} (h64 : len ≤ 64) (hvalue : value < 2 ^ len) :
    (field v lo len == BitVec.ofNat 64 value) = true ↔ v.extractLsb' lo len = BitVec.ofNat len value := by
  have hword : value < 2 ^ 64 := hvalue.trans_le (Nat.pow_le_pow_right (by decide) h64)
  rw [beq_iff_eq, ← BitVec.toNat_inj, ← BitVec.toNat_inj, toNat_field, BitVec.extractLsb'_toNat, BitVec.toNat_ofNat,
    BitVec.toNat_ofNat, Nat.mod_eq_of_lt hword, Nat.mod_eq_of_lt hvalue, Nat.shiftRight_eq_div_pow]

theorem and_lowMask_eq_setWidth (v : Word) (n : Nat) : v &&& lowMask n = (v.extractLsb' 0 n).setWidth 64 := by
  rw [← BitVec.toNat_inj, toNat_and_lowMask, BitVec.toNat_setWidth, BitVec.extractLsb'_toNat, Nat.shiftRight_zero,
    Nat.mod_eq_of_lt ((Nat.mod_le _ _).trans_lt v.isLt)]

/-- Masking to fewer bits and then to more is masking to the fewer. -/
theorem and_lowMask_and_lowMask {n m : Nat} (hnm : n ≤ m) (v : Word) : v &&& lowMask n &&& lowMask m = v &&& lowMask n := by
  have hlt : v.toNat % 2 ^ n < 2 ^ m :=
    (Nat.mod_lt _ (Nat.two_pow_pos n)).trans_le (Nat.pow_le_pow_right (by decide) hnm)
  rw [← BitVec.toNat_inj, toNat_and_lowMask, toNat_and_lowMask, Nat.mod_eq_of_lt hlt]

/-! ## The slot that decides, on its flag bits (R126, R127) -/

theorem Slot.readEnable_iff {e : Slot} {m : BitVec 2} : e.readEnable m = true ↔ ReadEnabled e m := by
  rw [Slot.readEnable, BitVec.getLsbD_ushiftRight, Nat.add_comm, ReadEnabled]

theorem Slot.writeEnable_iff {e : Slot} {m : BitVec 2} : e.writeEnable m = true ↔ WriteEnabled e m := by
  rw [Slot.writeEnable, BitVec.getLsbD_ushiftRight, Nat.add_comm, WriteEnabled]

theorem accessDenied_iff_enableClear {k : Kind} {e : Slot} {m : BitVec 2} :
    accessDenied k e m = true ↔ EnableClear k e m := by
  cases k <;> simp only [accessDenied, EnableClear, Bool.not_eq_true', ← Bool.not_eq_true, Slot.readEnable_iff,
    Slot.writeEnable_iff]

theorem readFaults_iff {k : Kind} {e : Slot} : readFaults k e = true ↔ k = .read ∧ e.flags.getLsbD 1 = true := by
  cases k <;> simp [readFaults, Slot.faultOnRead]

theorem writeFaults_iff {k : Kind} {e : Slot} : writeFaults k e = true ↔ k = .write ∧ e.flags.getLsbD 2 = true := by
  cases k <;> simp [writeFaults, Slot.faultOnWrite]

/-- The test of step 5 by the causes it names. -/
theorem denied_iff {k : Kind} {e : Slot} {m : BitVec 2} :
    (accessDenied k e m || readFaults k e || writeFaults k e) = true ↔
      EnableClear k e m ∨ (k = .read ∧ e.flags.getLsbD 1 = true) ∨ (k = .write ∧ e.flags.getLsbD 2 = true) := by
  rw [Bool.or_eq_true, Bool.or_eq_true, accessDenied_iff_enableClear, readFaults_iff, writeFaults_iff, or_assoc]

/-- A translation that reaches a valid first answer is decided by step 5's test (R126, R127). -/
theorem xlateOf_of_validAnswer {k : Kind} {va : Word} {s : State} {i : Nat} {e : Slot} (hreach : ReachesLookup k va s)
    (hfirst : FirstAnswer s.cfg (s.tlb (streamOf k)) va s.asn i e) (hvalid : e.flags.getLsbD 0 = true) :
    xlateOf k va s =
      if accessDenied k e s.cm || readFaults k e || writeFaults k e then
        .err (.accessViolation (accessDenied k e s.cm) (readFaults k e) (writeFaults k e))
      else .ok (physicalAddress s.cfg e va) (capOf e s.cm) := by
  have hnot : ¬e.valid = false := fun h => Bool.false_ne_true (h.symm.trans hvalid)
  rw [xlateOf_of_reachesLookup hreach, translateCached_of_firstAnswer hfirst, translateSlot, if_neg hnot]

/-- The bits of the physical address of step 6. -/
theorem getLsbD_physicalAddress (c : Config) (e : Slot) (va : Word) {j : Nat} (hj : j < 64) :
    (physicalAddress c e va).getLsbD j =
      if j < e.pageShift c then va.getLsbD j else (e.ppn <<< c.pageShift).getLsbD j := by
  rw [physicalAddress, BitVec.getLsbD_or, BitVec.getLsbD_and, BitVec.getLsbD_and, BitVec.getLsbD_not, getLsbD_lowMask]
  by_cases h : j < e.pageShift c <;> simp only [h, hj] <;> simp

/-- The capability mask of step 6 on the slot's flag bits. -/
theorem capOf_iff (e : Slot) (m : BitVec 2) :
    ((capOf e m).r = true ↔ ReadEnabled e m ∧ e.flags.getLsbD 1 = false) ∧
      ((capOf e m).w = true ↔ WriteEnabled e m ∧ e.flags.getLsbD 2 = false) ∧
      ((capOf e m).x = true ↔ ReadEnabled e m) := by
  simp only [capOf, Bool.and_eq_true, Bool.not_eq_true', Slot.readEnable_iff, Slot.writeEnable_iff, Slot.faultOnRead,
    Slot.faultOnWrite, and_self]

/-! ## The kind asked for is allowed (R127) -/

/-- Whether a capability mask allows a kind. -/
def Cap.allows (cap : Cap) (k : Kind) : Bool :=
  match k with
  | .read => cap.r
  | .write => cap.w
  | .execute => cap.x

/-- The mask of step 6 allows a kind exactly when step 5 lets it through. -/
theorem capOf_allows (k : Kind) (e : Slot) (m : BitVec 2) :
    Cap.allows (capOf e m) k = (!accessDenied k e m && !readFaults k e && !writeFaults k e) := by
  cases k <;> simp [Cap.allows, capOf, accessDenied, readFaults, writeFaults]

theorem allows_of_translateCached {k : Kind} {va pa : Word} {s : State} {cap : Cap}
    (h : translateCached k va s = .ok pa cap) : Cap.allows cap k = true := by
  unfold translateCached at h
  split at h
  next => exact Translation.noConfusion h
  next =>
    obtain ⟨-, hdenied, hread, hwrite, -, rfl⟩ := translateSlot_eq_ok.mp h
    rw [capOf_allows, hdenied, hread, hwrite]
    rfl

theorem allows_of_translateVirtual {k : Kind} {va pa : Word} {s : State} {cap : Cap}
    (h : translateVirtual k va s = .ok pa cap) : Cap.allows cap k = true := by
  unfold translateVirtual at h
  split at h
  next => exact Translation.noConfusion h
  next =>
    split at h
    next =>
      split at h
      next => exact Translation.noConfusion h
      next =>
        obtain ⟨-, rfl⟩ := Translation.ok.inj h
        cases k <;> rfl
    next => exact allows_of_translateCached h

/-- A translation succeeds only with the kind asked for in its mask. -/
theorem allows_of_xlateOf {k : Kind} {va pa : Word} {s : State} {cap : Cap} (h : xlateOf k va s = .ok pa cap) :
    Cap.allows cap k = true := by
  by_cases hphysical : k = .execute ∧ s.xlateCtx = .pal
  · obtain ⟨rfl, hctx⟩ := hphysical
    obtain ⟨-, rfl⟩ := Translation.ok.inj ((xlateOf_of_physical hctx).symm.trans h)
    rfl
  · rw [xlateOf_of_not_physical hphysical] at h
    exact allows_of_translateVirtual h

/-! ## MEMX (R130) -/

theorem exec_memx_of_ok {k : Kind} {va pa : Word} {s : State} {cap : Cap} (h : xlateOf k va s = .ok pa cap)
    (insn : Option Word32) : Ends (.memx k va insn) s (.translation (.ok pa cap)) [] s :=
  execMemx_eq_next.mpr (.inl ⟨pa, cap, h, rfl⟩)

/-- A fetch that fails raises R132's condition and nothing more. -/
theorem exec_memx_of_fetchFault {va : Word} {s : State} {r : FaultReason} (h : xlateOf .execute va s = .err r)
    (hfree : s.excCond = none) (insn : Option Word32) :
    exec (.memx .execute va insn) s = .next (Raised (.vectored (instructionVector s.cfg r)) 0 s) :=
  execMemx_eq_next.mpr (.inr (.inl ⟨r, h, rfl, raise_eq_next.mpr ⟨hfree, rfl⟩⟩))

end Sys2Proof.Machine

namespace Sys2Proof

open Sys2Proof.Machine Sys2Proof.Claims

/-! ## The obligations -/

/-- Settles O20: the canonical test is the only step that answers a bad virtual address. -/
theorem badVirtualAddressExactlyWhenNotCanonical : Obligations.BadVirtualAddressExactlyWhenNotCanonical := by
  unfold Obligations.BadVirtualAddressExactlyWhenNotCanonical
  intro k va s hvirtual control
  have hwidth : s.vaWidth (streamOf k) = if control.getLsbD 2 = true then 48 else 43 := by cases k <;> rfl
  rw [xlateAnswers_iff, xlateOf_of_not_physical hvirtual, translateVirtual_eq_badVirtualAddress, ← hwidth,
    ← canonical_vaWidth_iff, Bool.not_eq_true]

/-- Settles O21: the scan finds the largest window that applies, and the mode decides. -/
theorem largestMatchingWindowDecides : Obligations.LargestMatchingWindowDecides := by
  unfold Obligations.LargestMatchingWindowDecides
  intro k va s n hn hpasses happlies hlargest
  rw [xlateAnswers_iff, xlateAnswers_iff, xlateOf_of_window hpasses hn happlies hlargest]
  exact ⟨fun hcm => if_neg (not_not.mpr hcm), fun hcm => if_pos hcm⟩

/-- Settles O22: a window's test is on one field of the address, its mapping a mask or a sign extension. -/
theorem defaultSuperpageWindows : Obligations.DefaultSuperpageWindows := by
  unfold Obligations.DefaultSuperpageWindows
  intro va
  refine ⟨field_beq_iff (lo := 46) (len := 2) (value := 2) (by decide) (by decide),
    field_beq_iff (lo := 41) (len := 7) (value := 0x7E) (by decide) (by decide),
    field_beq_iff (lo := 30) (len := 18) (value := 0x3FFFE) (by decide) (by decide), ?window2, ?window1, ?window0⟩
  case window2 =>
    exact (and_lowMask_and_lowMask (Nat.le_refl 44) va).trans (and_lowMask_eq_setWidth va 44)
  case window1 =>
    rw [← BitVec.setWidth_eq_extractLsb' (by decide)]
    exact and_lowMask_eq_setWidth (sext 41 va) 44
  case window0 =>
    exact (and_lowMask_and_lowMask (by decide : 30 ≤ 44) va).trans (and_lowMask_eq_setWidth va 30)

/-- Settles O24: step 5's test fails, and the three causes are its three parts. -/
theorem deniedAccessNamesItsCauses : Obligations.DeniedAccessNamesItsCauses := by
  unfold Obligations.DeniedAccessNamesItsCauses
  intro k va s i e hreach hfirst hvalid hdenied
  refine ⟨accessDenied k e s.cm, readFaults k e, writeFaults k e, xlateAnswers_iff.mpr ?_, accessDenied_iff_enableClear,
    readFaults_iff, writeFaults_iff⟩
  rw [xlateOf_of_validAnswer hreach hfirst hvalid, if_pos (denied_iff.mpr hdenied)]

/-- Settles O25: step 5's test passes, and the answer is step 6's. -/
theorem allowedAccessGivesAddressAndCapabilities : Obligations.AllowedAccessGivesAddressAndCapabilities := by
  unfold Obligations.AllowedAccessGivesAddressAndCapabilities
  intro k va s i e hreach hfirst hvalid hallowed
  refine ⟨physicalAddress s.cfg e va, capOf e s.cm, xlateAnswers_iff.mpr ?_,
    fun _ => getLsbD_physicalAddress s.cfg e va, capOf_iff e s.cm⟩
  rw [xlateOf_of_validAnswer hreach hfirst hvalid, if_neg (denied_iff.not.mpr hallowed)]

/-- Settles O26: both commands answer `xlateOf`, which succeeds only with the kind asked for in its mask. -/
theorem successfulMemxAnswersLikeXlate : Obligations.SuccessfulMemxAnswersLikeXlate := by
  unfold Obligations.SuccessfulMemxAnswersLikeXlate
  refine ⟨fun a b insn valid => decode_word 0x08 0 0 a b insn valid,
    fun a b insn valid => decode_word 0x08 0 1 a b insn valid,
    fun a b insn valid => decode_word 0x08 0 2 a b insn valid,
    fun k va s => ⟨xlateOf k va s, xlateAnswers_iff.mpr rfl, fun pa cap hok => ?_⟩⟩
  have hallows := allows_of_xlateOf hok
  refine ⟨exec_memx_of_ok hok, ?_⟩
  cases k <;> exact hallows

/-- Settles O28, by the reason of the failure. -/
theorem fetchFaultRecordsNothingElse : Obligations.FetchFaultRecordsNothingElse := by
  unfold Obligations.FetchFaultRecordsNothingElse
  intro va insn s r hfails hfree
  rw [exec_memx_of_fetchFault (xlateAnswers_iff.mp hfails) hfree insn]
  cases r <;> rfl

end Sys2Proof
end

section
/-! The round trips of the two stored formats and the S and T images (44_float_codec.md R235, R238 to R242), with the
obligations on them. -/

namespace Sys2Proof.Machine

open Sys2Proof.Claims

/-! ## Format-F (R235) -/

/-- What CVTFS gives has the exponent two smaller and the same sign and fraction. -/
theorem cvtFS_fields {c : Config} {a : Word} (h : 3 ≤ (formatFExp a).toNat) :
    ((cvtFS c a).getLsbD 31).toNat = (imageSign a).toNat ∧ (singleExp (cvtFS c a)).toNat = (formatFExp a).toNat - 2 ∧
      (singleFrac (cvtFS c a)).toNat = (formatFFrac a).toNat := by
  have hv := toNat_cvtFS_of_three_le_exp (c := c) h
  have hsign := (imageSign a).toNat_le
  have hexp := (formatFExp a).isLt
  have hfrac := (formatFFrac a).isLt
  rw [toNat_getLsbD_last, toNat_singleExp, toNat_singleFrac, hv]
  omega

/-- An image whose fill is its exponent's and whose low bits are clear is the one its fields denote. -/
theorem toNat_of_formatF_fields {a : Word} (hlow : a.toNat % 2 ^ 29 = 0)
    (hfill : a.extractLsb' 59 3 = if a.getLsbD 62 = true then 0#3 else 7#3) :
    a.toNat =
      (imageSign a).toNat * 2 ^ 63 + (formatFExp a).toNat / 2 ^ 7 * 2 ^ 62 +
        (if 2 ^ 7 ≤ (formatFExp a).toNat then 0 else 7) * 2 ^ 59 + (formatFExp a).toNat % 2 ^ 7 * 2 ^ 52 +
        (formatFFrac a).toNat * 2 ^ 29 := by
  have hbit : a.getLsbD 62 = true ↔ 2 ^ 7 ≤ (formatFExp a).toNat := by
    rw [← BitVec.testBit_toNat, Nat.testBit_eq_decide_div_mod_eq, decide_eq_true_iff, toNat_formatFExp]
    omega
  have hnum : a.toNat / 2 ^ 59 % 2 ^ 3 = if 2 ^ 7 ≤ (formatFExp a).toNat then 0 else 7 := by
    have h := congrArg BitVec.toNat hfill
    rw [BitVec.extractLsb'_toNat, Nat.shiftRight_eq_div_pow, if_congr hbit rfl rfl, apply_ite BitVec.toNat] at h
    exact h
  have hlt := a.isLt
  rw [← hnum, toNat_imageSign, toNat_formatFExp, toNat_formatFFrac]
  omega

theorem cvtSF_cvtFS {c : Config} {a : Word} (hlow : a.toNat % 2 ^ 29 = 0) (hexp : 3 ≤ (formatFExp a).toNat)
    (hfill : a.extractLsb' 59 3 = if a.getLsbD 62 = true then 0#3 else 7#3) : cvtSF (cvtFS c a) = a := by
  obtain ⟨hs, he, hf⟩ := cvtFS_fields (c := c) hexp
  have hexplt := (formatFExp a).isLt
  rw [← BitVec.toNat_inj, toNat_cvtSF_of_exp_le_253 (by omega) (by omega), hs, he, hf, Nat.sub_add_cancel (by omega)]
  exact (toNat_of_formatF_fields hlow hfill).symm

/-- What CVTSF gives has the exponent two larger and the same sign and fraction. -/
theorem cvtSF_fields {b : Word32} (h1 : 1 ≤ (singleExp b).toNat) (h253 : (singleExp b).toNat ≤ 253) :
    (imageSign (cvtSF b)).toNat = (b.getLsbD 31).toNat ∧ (formatFExp (cvtSF b)).toNat = (singleExp b).toNat + 2 ∧
      (formatFFrac (cvtSF b)).toNat = (singleFrac b).toNat := by
  have hv := toNat_cvtSF_of_exp_le_253 h1 h253
  have hsign := (b.getLsbD 31).toNat_le
  have hfrac := (singleFrac b).isLt
  rw [toNat_imageSign, toNat_formatFExp, toNat_formatFFrac, hv]
  split <;> omega

theorem cvtFS_cvtSF {c : Config} {b : Word32} (h1 : 1 ≤ (singleExp b).toNat) (h253 : (singleExp b).toNat ≤ 253) :
    cvtFS c (cvtSF b) = b := by
  obtain ⟨hs, he, hf⟩ := cvtSF_fields h1 h253
  have hlt := b.isLt
  rw [← BitVec.toNat_inj, toNat_cvtFS_of_three_le_exp (by omega), hs, he, hf, toNat_getLsbD_last, toNat_singleExp,
    toNat_singleFrac]
  omega

/-! ## Format-G (R238) -/

theorem cvtGT_fields {c : Config} {a : Word} (h : 3 ≤ (imageExp a).toNat) :
    (imageSign (cvtGT c a)).toNat = (imageSign a).toNat ∧ (imageExp (cvtGT c a)).toNat = (imageExp a).toNat - 2 ∧
      (imageFrac (cvtGT c a)).toNat = (imageFrac a).toNat := by
  have hv := toNat_cvtGT_of_three_le_exp (c := c) h
  have hsign := (imageSign a).toNat_le
  have hexp := (imageExp a).isLt
  have hfrac := (imageFrac a).isLt
  rw [toNat_imageSign (cvtGT c a), toNat_imageExp (cvtGT c a), toNat_imageFrac (cvtGT c a), hv]
  omega

theorem cvtTG_fields {a : Word} (h1 : 1 ≤ (imageExp a).toNat) (h2045 : (imageExp a).toNat ≤ 2045) :
    (imageSign (cvtTG a)).toNat = (imageSign a).toNat ∧ (imageExp (cvtTG a)).toNat = (imageExp a).toNat + 2 ∧
      (imageFrac (cvtTG a)).toNat = (imageFrac a).toNat := by
  have hv := toNat_cvtTG_of_exp_le_2045 h1 h2045
  have hsign := (imageSign a).toNat_le
  have hfrac := (imageFrac a).isLt
  rw [toNat_imageSign (cvtTG a), toNat_imageExp (cvtTG a), toNat_imageFrac (cvtTG a), hv]
  omega

/-- A double is the one its sign, exponent and fraction denote. -/
theorem toNat_of_image_fields (a : Word) :
    (imageSign a).toNat * 2 ^ 63 + (imageExp a).toNat * 2 ^ 52 + (imageFrac a).toNat = a.toNat := by
  have hlt := a.isLt
  rw [toNat_imageSign, toNat_imageExp, toNat_imageFrac]
  omega

theorem cvtTG_cvtGT {c : Config} {a : Word} (h : 3 ≤ (imageExp a).toNat) : cvtTG (cvtGT c a) = a := by
  obtain ⟨hs, he, hf⟩ := cvtGT_fields (c := c) h
  have hlt := (imageExp a).isLt
  rw [← BitVec.toNat_inj, toNat_cvtTG_of_exp_le_2045 (by omega) (by omega), hs, he, hf, Nat.sub_add_cancel (by omega)]
  exact toNat_of_image_fields a

theorem cvtGT_cvtTG {c : Config} {a : Word} (h1 : 1 ≤ (imageExp a).toNat) (h2045 : (imageExp a).toNat ≤ 2045) :
    cvtGT c (cvtTG a) = a := by
  obtain ⟨hs, he, hf⟩ := cvtTG_fields h1 h2045
  rw [← BitVec.toNat_inj, toNat_cvtGT_of_three_le_exp (by omega), hs, he, hf, Nat.add_sub_cancel]
  exact toNat_of_image_fields a

/-! ## The S images (R239, R240) -/

/-- The or of a multiple of a power of two and a number below it is their sum. -/
theorem toNat_or_eq_add {n k : Nat} {x y : BitVec n} (hx : x.toNat % 2 ^ k = 0) (hy : y.toNat < 2 ^ k) :
    (x ||| y).toNat = x.toNat + y.toNat := by
  have hsplit : x.toNat = (x.toNat / 2 ^ k) <<< k := by
    rw [Nat.shiftLeft_eq, Nat.div_mul_cancel (Nat.dvd_of_mod_eq_zero hx)]
  rw [BitVec.toNat_or, hsplit, Nat.shiftLeft_add_eq_or_of_lt hy]

/-- A field of a word moved to another place in a 64-bit word that holds it. -/
theorem toNat_placed_field {w : Nat} (x : BitVec w) (lo len pos : Nat) (hfits : len + pos ≤ 64) :
    (((x.extractLsb' lo len).setWidth 64 : Word) <<< pos).toNat = x.toNat / 2 ^ lo % 2 ^ len * 2 ^ pos := by
  have hfield : x.toNat / 2 ^ lo % 2 ^ len * 2 ^ pos < 2 ^ 64 :=
    calc x.toNat / 2 ^ lo % 2 ^ len * 2 ^ pos < 2 ^ len * 2 ^ pos :=
          Nat.mul_lt_mul_of_pos_right (Nat.mod_lt _ (Nat.two_pow_pos len)) (Nat.two_pow_pos pos)
      _ = 2 ^ (len + pos) := (Nat.pow_add ..).symm
      _ ≤ 2 ^ 64 := Nat.pow_le_pow_right (by decide) hfits
  have hword : x.toNat / 2 ^ lo % 2 ^ len < 2 ^ 64 :=
    (Nat.mod_lt _ (Nat.two_pow_pos len)).trans_le (Nat.pow_le_pow_right (by decide) (by omega))
  rw [BitVec.toNat_shiftLeft, BitVec.toNat_setWidth, BitVec.extractLsb'_toNat, Nat.shiftRight_eq_div_pow, Nat.shiftLeft_eq,
    Nat.mod_eq_of_lt hword, Nat.mod_eq_of_lt hfield]

/-- The exponent mask of a single keeps its exponent, in place. -/
theorem and_singleExp_mask (m : Word32) : m &&& 0x7F800000#32 = (singleExp m).setWidth 32 <<< 23 := by
  have hmask : ∀ (i : Nat) (hi : i < 32), (0x7F800000#32)[i] = decide (23 ≤ i ∧ i < 31) := by decide
  ext i hi
  rw [BitVec.getElem_and, hmask, BitVec.getElem_shiftLeft]
  by_cases hlo : i < 23
  · simp [hlo]
  · have hback : 23 + (i - 23) = i := by omega
    by_cases hhi : i < 31
    · simp [singleExp, hlo, hhi, hback, show 23 ≤ i by omega, show i - 23 < 8 by omega, BitVec.getLsbD_eq_getElem hi]
    · simp [singleExp, hlo, hhi, show ¬i - 23 < 8 by omega]

/-- LDS fills the bits 61:59 of an image that is no infinity or NaN and has bit 30 clear (R239). -/
theorem ldS_fills_iff (m : Word32) :
    (m &&& 0x7F800000#32 ≠ 0x7F800000#32 ∧ m.getLsbD 30 = false) ↔
      m.toNat / 2 ^ 23 % 2 ^ 8 ≠ 255 ∧ m.toNat / 2 ^ 30 % 2 = 0 := by
  have hexp := (singleExp m).isLt
  refine and_congr (not_congr ?_) ?_
  · rw [and_singleExp_mask, ← BitVec.toNat_inj, BitVec.toNat_shiftLeft, BitVec.toNat_setWidth, Nat.shiftLeft_eq,
      BitVec.toNat_ofNat, ← toNat_singleExp]
    omega
  · rw [← BitVec.testBit_toNat, Nat.testBit_eq_decide_div_mod_eq, decide_eq_false_iff_not]
    omega

theorem toNat_ldS (m : Word32) :
    (ldS m).toNat =
      m.toNat / 2 ^ 30 * 2 ^ 62 + m.toNat % 2 ^ 30 * 2 ^ 29 +
        if m.toNat / 2 ^ 23 % 2 ^ 8 ≠ 255 ∧ m.toNat / 2 ^ 30 % 2 = 0 then 7 * 2 ^ 59 else 0 := by
  have hlt := m.isLt
  have hhigh := toNat_placed_field m 30 2 62 (by decide)
  have hlow := toNat_placed_field m 0 30 29 (by decide)
  have hfill : (7#64 <<< 59 : Word).toNat = 7 * 2 ^ 59 := by decide
  rw [ldS, if_congr (ldS_fills_iff m) rfl rfl]
  split
  next =>
    rw [BitVec.or_assoc, BitVec.or_comm _ (7#64 <<< 59), toNat_or_eq_add (k := 62) (by omega) ?below,
      toNat_or_eq_add (k := 59) (by omega) (by omega)]
    case below => rw [toNat_or_eq_add (k := 59) (by omega) (by omega)]; omega
    omega
  next =>
    rw [toNat_or_eq_add (k := 62) (by omega) (by omega)]
    omega

theorem toNat_stS (r : Word) : (stS r).toNat = r.toNat / 2 ^ 62 * 2 ^ 30 + r.toNat / 2 ^ 29 % 2 ^ 30 := by
  have hlt := r.isLt
  have hhigh := toNat_placed_field r 62 2 30 (by decide)
  have hlow : ((r.extractLsb' 29 30).setWidth 64 : Word).toNat = r.toNat / 2 ^ 29 % 2 ^ 30 := by
    rw [BitVec.toNat_setWidth, BitVec.extractLsb'_toNat, Nat.shiftRight_eq_div_pow]
    omega
  rw [stS, toNat_or_eq_add (k := 30) (by omega) (by omega), hhigh, hlow]
  omega

/-- STS gives back the image LDS took (R240). -/
theorem stS_ldS (m : Word32) : stS (ldS m) = m.setWidth 64 := by
  have hlt := m.isLt
  rw [← BitVec.toNat_inj, toNat_stS, toNat_ldS, BitVec.toNat_setWidth]
  split <;> omega

end Sys2Proof.Machine

namespace Sys2Proof

open Sys2Proof.Machine Sys2Proof.Claims

/-! ## The obligations -/

/-- Settles O50: each conversion undoes the other on the fields, two exponents apart. -/
theorem formatFRoundTrips : Obligations.FormatFRoundTrips := by
  unfold Obligations.FormatFRoundTrips
  refine ⟨fun a s hlow hexp hfill => ?fromF, fun b s h1 h253 => ?fromS⟩
  case fromF =>
    refine ⟨(cvtFS s.cfg a).setWidth 64, ends_cvtfs (not_reservedF_of_exp_ne_zero (by omega)) rfl, ends_cvtsf ?_⟩
    rw [BitVec.setWidth_setWidth_of_le _ (by decide), BitVec.setWidth_eq]
    exact cvtSF_cvtFS hlow hexp hfill
  case fromS =>
    rw [← toNat_singleExp] at h1 h253
    obtain ⟨-, hexp, -⟩ := cvtSF_fields h1 h253
    exact ⟨cvtSF b, ends_cvtsf rfl, ends_cvtfs (not_reservedF_of_exp_ne_zero (by omega)) (cvtFS_cvtSF h1 h253)⟩

/-- Settles O52, like Format-F. -/
theorem formatGRoundTrips : Obligations.FormatGRoundTrips := by
  unfold Obligations.FormatGRoundTrips
  intro a s
  rw [← toNat_imageExp]
  refine ⟨fun h => ?fromG, fun h1 h2045 => ?fromT⟩
  case fromG =>
    exact ⟨cvtGT s.cfg a, ends_cvtgt (not_reservedG_of_exp_ne_zero (by omega)) rfl, ends_cvttg (cvtTG_cvtGT h)⟩
  case fromT =>
    obtain ⟨-, hexp, -⟩ := cvtTG_fields h1 h2045
    exact ⟨cvtTG a, ends_cvttg rfl, ends_cvtgt (not_reservedG_of_exp_ne_zero (by omega)) (cvtGT_cvtTG h1 h2045)⟩

/-- Settles O53: the images by their numbers. -/
theorem sAndTImagesConvert : Obligations.SAndTImagesConvert := by
  unfold Obligations.SAndTImagesConvert
  refine ⟨opensAs_plainWord 0x24 (fun a _ => .lds (a.setWidth 32)) fun _ => rfl,
    opensAs_plainWord 0x25 (fun a _ => .sts a) fun _ => rfl, opensAs_plainWord 0x26 (fun a _ => .ldt a) fun _ => rfl,
    opensAs_plainWord 0x27 (fun a _ => .stt a) fun _ => rfl, fun m s => ?single, fun r s => ?stored⟩
  case single =>
    exact ⟨ldS m, ends_of_exec_eq_answer rfl, toNat_ldS m, ends_of_exec_eq_answer (congrArg (answer · s) (stS_ldS m))⟩
  case stored =>
    exact ⟨⟨stS r, ends_of_exec_eq_answer rfl, toNat_stS r⟩, ends_of_exec_eq_answer rfl, ends_of_exec_eq_answer rfl⟩

end Sys2Proof
end
